-- ==== Sys2Proof/Word.lean ====
section
/-! DEFINITION. The words of the machine: bytes, 16-bit words, cycle counts, colour indices (00_scope.md R7, R8), and the names of the
eight general registers (10_state.md R20). -/

namespace Sys2Proof

/-- A byte (00_scope.md R8). -/
abbrev Byte := BitVec 8

/-- A 16-bit value: an address, PC or SP (00_scope.md R7). -/
abbrev Word := BitVec 16

/-- A cycle count, 32 bits unsigned (00_scope.md R7; 10_state.md R30). -/
abbrev Cycles := BitVec 32

/-- A 2-bit colour index (50_video_unit.md R185). -/
abbrev Colour := BitVec 2

/-- The eight general registers (10_state.md R20, R21). -/
inductive Reg8 where
  | a | f | b | c | d | e | h | l
deriving DecidableEq, Repr

/-- The eight buttons, in the order in which 51_input_latch.md R201 names them. -/
inductive Button where
  | right | left | up | down | a | b | select | start
deriving DecidableEq, Repr

/-- One RGBA colour: four bytes (50_video_unit.md R186). -/
structure Rgba where
  r : Byte
  g : Byte
  b : Byte
  a : Byte
deriving DecidableEq, Repr, Inhabited

end Sys2Proof
end

