-- ==== Sys2Proof/Config.lean ====
section
/-! DEFINITION. What is fixed for a machine (00_scope.md R7). The two OPEN parameters of the spec, `PALETTE` (decision D11) and `FB_INIT`
(decision D12), are constants with no body: a claim about them holds for every value (logs 8 and 9). The numbers the source states stand
here; the numbers a test could show wrong (cycle costs, bit positions, video addresses) stand beside the operations that use them. -/

namespace Sys2Proof.Config

/-- `PALETTE`: four colours, OPEN (50_video_unit.md R186, decision D11). -/
opaque palette : Colour → Rgba

/-- `FB_INIT`: the byte the framebuffer holds at each offset after reset, OPEN (10_state.md R50, decision D12). -/
opaque fbInit : Nat → Byte

/-- `SCANLINE_CYCLES` (00_scope.md R7; 50_video_unit.md R172). -/
abbrev scanlineCycles : Nat := 456

/-- `LINES_PER_FRAME` (00_scope.md R7; 50_video_unit.md R171). -/
abbrev linesPerFrame : Nat := 154

/-- `VBLANK_LINE` (00_scope.md R7; 50_video_unit.md R176). The visible lines are the ones below it. -/
abbrev vblankLine : Nat := 144

/-- `FRAME_CYCLES` (00_scope.md R7; 52_machine_loop.md R216). -/
abbrev frameCycles : Nat := 70224

/-- `FB_WIDTH` (00_scope.md R7; 10_state.md R33). -/
abbrev fbWidth : Nat := 160

/-- The size of the framebuffer in bytes: 160 by 144 pixels of four bytes (10_state.md R33). -/
abbrev fbBytes : Nat := 92160

/-- The size of the cartridge region (00_scope.md R7; 20_memory.md R75). -/
abbrev romBytes : Nat := 32768

end Sys2Proof.Config
end

