-- ==== Sys2Proof/Syntax.lean ====
section
/-! DEFINITION. The instruction set: one constructor for each of the 256 rows of spec/opcode_table.json (30_encoding.md R104, R106).
Fifteen opcode bytes have a meaning of their own; `fallbackNN` is the row `.fallback_0xNN`, the opcode byte NN taken as a one-byte
no-operation (44_halt_and_fallback.md R160). An operand is a bit vector of exactly the width its encoding has (30_encoding.md R103), so no
ill-formed operand can be written. -/

namespace Sys2Proof

/-- The instructions: the fifteen defined ones, then the 241 fallback bytes in ascending order. -/
inductive Instr where
  /-- `NOP` (40_nop.md R120). -/
  | nop
  /-- `LD B,d8` (41_loads.md R126). -/
  | ldB (d8 : Byte)
  /-- `LD C,d8` (41_loads.md R127). -/
  | ldC (d8 : Byte)
  /-- `LD D,d8` (41_loads.md R128). -/
  | ldD (d8 : Byte)
  /-- `LD E,d8` (41_loads.md R129). -/
  | ldE (d8 : Byte)
  /-- `LD H,d8` (41_loads.md R130). -/
  | ldH (d8 : Byte)
  /-- `LD L,d8` (41_loads.md R131). -/
  | ldL (d8 : Byte)
  /-- `LD A,d8` (41_loads.md R132). -/
  | ldA (d8 : Byte)
  /-- `HALT` (44_halt_and_fallback.md R155). -/
  | halt
  /-- `XOR A` (43_alu.md R150). -/
  | xorA
  /-- `JP a16` (42_control.md R140). -/
  | jp (a16 : Word)
  /-- `RET` (42_control.md R142). -/
  | ret
  /-- `CALL a16` (42_control.md R141). -/
  | call (a16 : Word)
  /-- `LD (a16),A` (41_loads.md R133). -/
  | storeA (a16 : Word)
  /-- `LD A,(a16)` (41_loads.md R134). -/
  | loadA (a16 : Word)
  | fallback01 | fallback02 | fallback03 | fallback04 | fallback05 | fallback07 | fallback08 | fallback09
  | fallback0A | fallback0B | fallback0C | fallback0D | fallback0F | fallback10 | fallback11 | fallback12
  | fallback13 | fallback14 | fallback15 | fallback17 | fallback18 | fallback19 | fallback1A | fallback1B
  | fallback1C | fallback1D | fallback1F | fallback20 | fallback21 | fallback22 | fallback23 | fallback24
  | fallback25 | fallback27 | fallback28 | fallback29 | fallback2A | fallback2B | fallback2C | fallback2D
  | fallback2F | fallback30 | fallback31 | fallback32 | fallback33 | fallback34 | fallback35 | fallback36
  | fallback37 | fallback38 | fallback39 | fallback3A | fallback3B | fallback3C | fallback3D | fallback3F
  | fallback40 | fallback41 | fallback42 | fallback43 | fallback44 | fallback45 | fallback46 | fallback47
  | fallback48 | fallback49 | fallback4A | fallback4B | fallback4C | fallback4D | fallback4E | fallback4F
  | fallback50 | fallback51 | fallback52 | fallback53 | fallback54 | fallback55 | fallback56 | fallback57
  | fallback58 | fallback59 | fallback5A | fallback5B | fallback5C | fallback5D | fallback5E | fallback5F
  | fallback60 | fallback61 | fallback62 | fallback63 | fallback64 | fallback65 | fallback66 | fallback67
  | fallback68 | fallback69 | fallback6A | fallback6B | fallback6C | fallback6D | fallback6E | fallback6F
  | fallback70 | fallback71 | fallback72 | fallback73 | fallback74 | fallback75 | fallback77 | fallback78
  | fallback79 | fallback7A | fallback7B | fallback7C | fallback7D | fallback7E | fallback7F | fallback80
  | fallback81 | fallback82 | fallback83 | fallback84 | fallback85 | fallback86 | fallback87 | fallback88
  | fallback89 | fallback8A | fallback8B | fallback8C | fallback8D | fallback8E | fallback8F | fallback90
  | fallback91 | fallback92 | fallback93 | fallback94 | fallback95 | fallback96 | fallback97 | fallback98
  | fallback99 | fallback9A | fallback9B | fallback9C | fallback9D | fallback9E | fallback9F | fallbackA0
  | fallbackA1 | fallbackA2 | fallbackA3 | fallbackA4 | fallbackA5 | fallbackA6 | fallbackA7 | fallbackA8
  | fallbackA9 | fallbackAA | fallbackAB | fallbackAC | fallbackAD | fallbackAE | fallbackB0 | fallbackB1
  | fallbackB2 | fallbackB3 | fallbackB4 | fallbackB5 | fallbackB6 | fallbackB7 | fallbackB8 | fallbackB9
  | fallbackBA | fallbackBB | fallbackBC | fallbackBD | fallbackBE | fallbackBF | fallbackC0 | fallbackC1
  | fallbackC2 | fallbackC4 | fallbackC5 | fallbackC6 | fallbackC7 | fallbackC8 | fallbackCA | fallbackCB
  | fallbackCC | fallbackCE | fallbackCF | fallbackD0 | fallbackD1 | fallbackD2 | fallbackD3 | fallbackD4
  | fallbackD5 | fallbackD6 | fallbackD7 | fallbackD8 | fallbackD9 | fallbackDA | fallbackDB | fallbackDC
  | fallbackDD | fallbackDE | fallbackDF | fallbackE0 | fallbackE1 | fallbackE2 | fallbackE3 | fallbackE4
  | fallbackE5 | fallbackE6 | fallbackE7 | fallbackE8 | fallbackE9 | fallbackEB | fallbackEC | fallbackED
  | fallbackEE | fallbackEF | fallbackF0 | fallbackF1 | fallbackF2 | fallbackF3 | fallbackF4 | fallbackF5
  | fallbackF6 | fallbackF7 | fallbackF8 | fallbackF9 | fallbackFB | fallbackFC | fallbackFD | fallbackFE
  | fallbackFF
deriving DecidableEq, Repr

end Sys2Proof
end

