-- ==== Sys2Proof/WellFormed.lean ====
section
/-! DEFINITION. The assembler's lines (30_encoding.md R109) and the check that a line is an instruction of this hardware. A term of `Instr`
needs no check, its operands being bit vectors of the encoding's own widths; a line of assembly has plain numbers and register names, and
not every line is an instruction: F has no immediate load (R105), `d8` is 0 to 255, `a16` is 0 to 65535, and `.fallback 0xNN` names one of
the 241 fallback bytes (R106). -/

namespace Sys2Proof

/-- The fifteen defined opcode bytes (30_encoding.md R104; decision D2, log 1). -/
def definedOpcodes : List Byte :=
  [0x00#8, 0x06#8, 0x0E#8, 0x16#8, 0x1E#8, 0x26#8, 0x2E#8, 0x3E#8, 0x76#8, 0xAF#8, 0xC3#8, 0xC9#8, 0xCD#8, 0xEA#8, 0xFA#8]

/-- One line of assembly, with numbers as written (30_encoding.md R109). -/
inductive Asm where
  /-- `NOP` -/
  | nop
  /-- `LD r, d8` -/
  | ldImm (r : Reg8) (d8 : Nat)
  /-- `LD (a16), A` -/
  | storeA (a16 : Nat)
  /-- `LD A, (a16)` -/
  | loadA (a16 : Nat)
  /-- `JP a16` -/
  | jp (a16 : Nat)
  /-- `CALL a16` -/
  | call (a16 : Nat)
  /-- `RET` -/
  | ret
  /-- `XOR A` -/
  | xorA
  /-- `HALT` -/
  | halt
  /-- `.fallback 0xNN` -/
  | fallback (op : Nat)
deriving DecidableEq, Repr

/-- The register code of an immediate load (30_encoding.md R105). F has none; its value here is the code 6 that is no register, and
`Asm.wellFormed` refuses it. -/
def Reg8.loadCode : Reg8 → Nat
  | .b => 0
  | .c => 1
  | .d => 2
  | .e => 3
  | .h => 4
  | .l => 5
  | .f => 6
  | .a => 7

/-- The line is an instruction of this hardware (30_encoding.md R105, R106, R109). -/
def Asm.wellFormed : Asm → Bool
  | .ldImm r d8 => decide (r ≠ .f) && decide (d8 < 256)
  | .storeA a16 => decide (a16 < 65536)
  | .loadA a16 => decide (a16 < 65536)
  | .jp a16 => decide (a16 < 65536)
  | .call a16 => decide (a16 < 65536)
  | .fallback op => decide (op < 256) && !definedOpcodes.contains (BitVec.ofNat 8 op)
  | .nop => true
  | .ret => true
  | .xorA => true
  | .halt => true

end Sys2Proof
end

