-- ==== Sys2Proof/Decode.lean ====
section
/-! DEFINITION. Decoding and encoding (30_encoding.md). The opcode byte alone selects the instruction (R100, R102): the opcode map below
has sixteen rows of sixteen, and every byte value is in it, so decoding never fails once the bytes are there (R101, R106). Opcode bytes
other than 0x3E, 0xEA and 0x76 are the spec's decision D2 (log 1). -/

namespace Sys2Proof

/-- `hi:lo`, the 16-bit value `hi * 256 + lo` (00_scope.md R8). -/
def word16 (hi lo : Byte) : Word := hi ++ lo

/-- Bits 7 to 0 of a 16-bit value. -/
def loByte (w : Word) : Byte := w.extractLsb' 0 8

/-- Bits 15 to 8 of a 16-bit value. -/
def hiByte (w : Word) : Byte := w.extractLsb' 8 8

/-- Opcode bytes 0x00 to 0x0F of the opcode map (30_encoding.md R104, R106). -/
def opcodeRow0 (d8 : Byte) : List Instr :=
  [.nop, .fallback01, .fallback02, .fallback03, .fallback04, .fallback05, .ldB d8, .fallback07,
   .fallback08, .fallback09, .fallback0A, .fallback0B, .fallback0C, .fallback0D, .ldC d8, .fallback0F]

/-- Opcode bytes 0x10 to 0x1F of the opcode map (30_encoding.md R104, R106). -/
def opcodeRow1 (d8 : Byte) : List Instr :=
  [.fallback10, .fallback11, .fallback12, .fallback13, .fallback14, .fallback15, .ldD d8, .fallback17,
   .fallback18, .fallback19, .fallback1A, .fallback1B, .fallback1C, .fallback1D, .ldE d8, .fallback1F]

/-- Opcode bytes 0x20 to 0x2F of the opcode map (30_encoding.md R104, R106). -/
def opcodeRow2 (d8 : Byte) : List Instr :=
  [.fallback20, .fallback21, .fallback22, .fallback23, .fallback24, .fallback25, .ldH d8, .fallback27,
   .fallback28, .fallback29, .fallback2A, .fallback2B, .fallback2C, .fallback2D, .ldL d8, .fallback2F]

/-- Opcode bytes 0x30 to 0x3F of the opcode map (30_encoding.md R104, R106). -/
def opcodeRow3 (d8 : Byte) : List Instr :=
  [.fallback30, .fallback31, .fallback32, .fallback33, .fallback34, .fallback35, .fallback36, .fallback37,
   .fallback38, .fallback39, .fallback3A, .fallback3B, .fallback3C, .fallback3D, .ldA d8, .fallback3F]

/-- Opcode bytes 0x40 to 0x4F of the opcode map (30_encoding.md R104, R106). -/
def opcodeRow4 : List Instr :=
  [.fallback40, .fallback41, .fallback42, .fallback43, .fallback44, .fallback45, .fallback46, .fallback47,
   .fallback48, .fallback49, .fallback4A, .fallback4B, .fallback4C, .fallback4D, .fallback4E, .fallback4F]

/-- Opcode bytes 0x50 to 0x5F of the opcode map (30_encoding.md R104, R106). -/
def opcodeRow5 : List Instr :=
  [.fallback50, .fallback51, .fallback52, .fallback53, .fallback54, .fallback55, .fallback56, .fallback57,
   .fallback58, .fallback59, .fallback5A, .fallback5B, .fallback5C, .fallback5D, .fallback5E, .fallback5F]

/-- Opcode bytes 0x60 to 0x6F of the opcode map (30_encoding.md R104, R106). -/
def opcodeRow6 : List Instr :=
  [.fallback60, .fallback61, .fallback62, .fallback63, .fallback64, .fallback65, .fallback66, .fallback67,
   .fallback68, .fallback69, .fallback6A, .fallback6B, .fallback6C, .fallback6D, .fallback6E, .fallback6F]

/-- Opcode bytes 0x70 to 0x7F of the opcode map (30_encoding.md R104, R106). -/
def opcodeRow7 : List Instr :=
  [.fallback70, .fallback71, .fallback72, .fallback73, .fallback74, .fallback75, .halt, .fallback77,
   .fallback78, .fallback79, .fallback7A, .fallback7B, .fallback7C, .fallback7D, .fallback7E, .fallback7F]

/-- Opcode bytes 0x80 to 0x8F of the opcode map (30_encoding.md R104, R106). -/
def opcodeRow8 : List Instr :=
  [.fallback80, .fallback81, .fallback82, .fallback83, .fallback84, .fallback85, .fallback86, .fallback87,
   .fallback88, .fallback89, .fallback8A, .fallback8B, .fallback8C, .fallback8D, .fallback8E, .fallback8F]

/-- Opcode bytes 0x90 to 0x9F of the opcode map (30_encoding.md R104, R106). -/
def opcodeRow9 : List Instr :=
  [.fallback90, .fallback91, .fallback92, .fallback93, .fallback94, .fallback95, .fallback96, .fallback97,
   .fallback98, .fallback99, .fallback9A, .fallback9B, .fallback9C, .fallback9D, .fallback9E, .fallback9F]

/-- Opcode bytes 0xA0 to 0xAF of the opcode map (30_encoding.md R104, R106). -/
def opcodeRowA : List Instr :=
  [.fallbackA0, .fallbackA1, .fallbackA2, .fallbackA3, .fallbackA4, .fallbackA5, .fallbackA6, .fallbackA7,
   .fallbackA8, .fallbackA9, .fallbackAA, .fallbackAB, .fallbackAC, .fallbackAD, .fallbackAE, .xorA]

/-- Opcode bytes 0xB0 to 0xBF of the opcode map (30_encoding.md R104, R106). -/
def opcodeRowB : List Instr :=
  [.fallbackB0, .fallbackB1, .fallbackB2, .fallbackB3, .fallbackB4, .fallbackB5, .fallbackB6, .fallbackB7,
   .fallbackB8, .fallbackB9, .fallbackBA, .fallbackBB, .fallbackBC, .fallbackBD, .fallbackBE, .fallbackBF]

/-- Opcode bytes 0xC0 to 0xCF of the opcode map (30_encoding.md R104, R106). -/
def opcodeRowC (a16 : Word) : List Instr :=
  [.fallbackC0, .fallbackC1, .fallbackC2, .jp a16, .fallbackC4, .fallbackC5, .fallbackC6, .fallbackC7,
   .fallbackC8, .ret, .fallbackCA, .fallbackCB, .fallbackCC, .call a16, .fallbackCE, .fallbackCF]

/-- Opcode bytes 0xD0 to 0xDF of the opcode map (30_encoding.md R104, R106). -/
def opcodeRowD : List Instr :=
  [.fallbackD0, .fallbackD1, .fallbackD2, .fallbackD3, .fallbackD4, .fallbackD5, .fallbackD6, .fallbackD7,
   .fallbackD8, .fallbackD9, .fallbackDA, .fallbackDB, .fallbackDC, .fallbackDD, .fallbackDE, .fallbackDF]

/-- Opcode bytes 0xE0 to 0xEF of the opcode map (30_encoding.md R104, R106). -/
def opcodeRowE (a16 : Word) : List Instr :=
  [.fallbackE0, .fallbackE1, .fallbackE2, .fallbackE3, .fallbackE4, .fallbackE5, .fallbackE6, .fallbackE7,
   .fallbackE8, .fallbackE9, .storeA a16, .fallbackEB, .fallbackEC, .fallbackED, .fallbackEE, .fallbackEF]

/-- Opcode bytes 0xF0 to 0xFF of the opcode map (30_encoding.md R104, R106). -/
def opcodeRowF (a16 : Word) : List Instr :=
  [.fallbackF0, .fallbackF1, .fallbackF2, .fallbackF3, .fallbackF4, .fallbackF5, .fallbackF6, .fallbackF7,
   .fallbackF8, .fallbackF9, .loadA a16, .fallbackFB, .fallbackFC, .fallbackFD, .fallbackFE, .fallbackFF]

/-- The whole opcode map, row by row, for given operand values (30_encoding.md R103, R104, R106). -/
def opcodeMap (d8 : Byte) (a16 : Word) : List (List Instr) :=
  [opcodeRow0 d8, opcodeRow1 d8, opcodeRow2 d8, opcodeRow3 d8, opcodeRow4, opcodeRow5, opcodeRow6, opcodeRow7,
   opcodeRow8, opcodeRow9, opcodeRowA, opcodeRowB, opcodeRowC a16, opcodeRowD, opcodeRowE a16, opcodeRowF a16]

/-- The instruction at three bytes: the opcode byte, and the two after it as far as its format uses them. `d8` is byte 1 as it is;
`a16` is byte 2 times 256 plus byte 1 (30_encoding.md R100, R101, R103). Every byte value has its entry in the map
(`decodeBytes_opcode`), so no default is ever taken. -/
def decodeBytes (b0 b1 b2 : Byte) : Instr :=
  ((opcodeMap b1 (word16 b2 b1)).getD (b0.toNat / 16) []).getD (b0.toNat % 16) .nop

/-- The opcode byte of an instruction (30_encoding.md R104, R106). -/
def Instr.opcode : Instr → Byte
  | .nop => 0x00#8 | .fallback01 => 0x01#8 | .fallback02 => 0x02#8 | .fallback03 => 0x03#8
  | .fallback04 => 0x04#8 | .fallback05 => 0x05#8 | .ldB _ => 0x06#8 | .fallback07 => 0x07#8
  | .fallback08 => 0x08#8 | .fallback09 => 0x09#8 | .fallback0A => 0x0A#8 | .fallback0B => 0x0B#8
  | .fallback0C => 0x0C#8 | .fallback0D => 0x0D#8 | .ldC _ => 0x0E#8 | .fallback0F => 0x0F#8
  | .fallback10 => 0x10#8 | .fallback11 => 0x11#8 | .fallback12 => 0x12#8 | .fallback13 => 0x13#8
  | .fallback14 => 0x14#8 | .fallback15 => 0x15#8 | .ldD _ => 0x16#8 | .fallback17 => 0x17#8
  | .fallback18 => 0x18#8 | .fallback19 => 0x19#8 | .fallback1A => 0x1A#8 | .fallback1B => 0x1B#8
  | .fallback1C => 0x1C#8 | .fallback1D => 0x1D#8 | .ldE _ => 0x1E#8 | .fallback1F => 0x1F#8
  | .fallback20 => 0x20#8 | .fallback21 => 0x21#8 | .fallback22 => 0x22#8 | .fallback23 => 0x23#8
  | .fallback24 => 0x24#8 | .fallback25 => 0x25#8 | .ldH _ => 0x26#8 | .fallback27 => 0x27#8
  | .fallback28 => 0x28#8 | .fallback29 => 0x29#8 | .fallback2A => 0x2A#8 | .fallback2B => 0x2B#8
  | .fallback2C => 0x2C#8 | .fallback2D => 0x2D#8 | .ldL _ => 0x2E#8 | .fallback2F => 0x2F#8
  | .fallback30 => 0x30#8 | .fallback31 => 0x31#8 | .fallback32 => 0x32#8 | .fallback33 => 0x33#8
  | .fallback34 => 0x34#8 | .fallback35 => 0x35#8 | .fallback36 => 0x36#8 | .fallback37 => 0x37#8
  | .fallback38 => 0x38#8 | .fallback39 => 0x39#8 | .fallback3A => 0x3A#8 | .fallback3B => 0x3B#8
  | .fallback3C => 0x3C#8 | .fallback3D => 0x3D#8 | .ldA _ => 0x3E#8 | .fallback3F => 0x3F#8
  | .fallback40 => 0x40#8 | .fallback41 => 0x41#8 | .fallback42 => 0x42#8 | .fallback43 => 0x43#8
  | .fallback44 => 0x44#8 | .fallback45 => 0x45#8 | .fallback46 => 0x46#8 | .fallback47 => 0x47#8
  | .fallback48 => 0x48#8 | .fallback49 => 0x49#8 | .fallback4A => 0x4A#8 | .fallback4B => 0x4B#8
  | .fallback4C => 0x4C#8 | .fallback4D => 0x4D#8 | .fallback4E => 0x4E#8 | .fallback4F => 0x4F#8
  | .fallback50 => 0x50#8 | .fallback51 => 0x51#8 | .fallback52 => 0x52#8 | .fallback53 => 0x53#8
  | .fallback54 => 0x54#8 | .fallback55 => 0x55#8 | .fallback56 => 0x56#8 | .fallback57 => 0x57#8
  | .fallback58 => 0x58#8 | .fallback59 => 0x59#8 | .fallback5A => 0x5A#8 | .fallback5B => 0x5B#8
  | .fallback5C => 0x5C#8 | .fallback5D => 0x5D#8 | .fallback5E => 0x5E#8 | .fallback5F => 0x5F#8
  | .fallback60 => 0x60#8 | .fallback61 => 0x61#8 | .fallback62 => 0x62#8 | .fallback63 => 0x63#8
  | .fallback64 => 0x64#8 | .fallback65 => 0x65#8 | .fallback66 => 0x66#8 | .fallback67 => 0x67#8
  | .fallback68 => 0x68#8 | .fallback69 => 0x69#8 | .fallback6A => 0x6A#8 | .fallback6B => 0x6B#8
  | .fallback6C => 0x6C#8 | .fallback6D => 0x6D#8 | .fallback6E => 0x6E#8 | .fallback6F => 0x6F#8
  | .fallback70 => 0x70#8 | .fallback71 => 0x71#8 | .fallback72 => 0x72#8 | .fallback73 => 0x73#8
  | .fallback74 => 0x74#8 | .fallback75 => 0x75#8 | .halt => 0x76#8 | .fallback77 => 0x77#8
  | .fallback78 => 0x78#8 | .fallback79 => 0x79#8 | .fallback7A => 0x7A#8 | .fallback7B => 0x7B#8
  | .fallback7C => 0x7C#8 | .fallback7D => 0x7D#8 | .fallback7E => 0x7E#8 | .fallback7F => 0x7F#8
  | .fallback80 => 0x80#8 | .fallback81 => 0x81#8 | .fallback82 => 0x82#8 | .fallback83 => 0x83#8
  | .fallback84 => 0x84#8 | .fallback85 => 0x85#8 | .fallback86 => 0x86#8 | .fallback87 => 0x87#8
  | .fallback88 => 0x88#8 | .fallback89 => 0x89#8 | .fallback8A => 0x8A#8 | .fallback8B => 0x8B#8
  | .fallback8C => 0x8C#8 | .fallback8D => 0x8D#8 | .fallback8E => 0x8E#8 | .fallback8F => 0x8F#8
  | .fallback90 => 0x90#8 | .fallback91 => 0x91#8 | .fallback92 => 0x92#8 | .fallback93 => 0x93#8
  | .fallback94 => 0x94#8 | .fallback95 => 0x95#8 | .fallback96 => 0x96#8 | .fallback97 => 0x97#8
  | .fallback98 => 0x98#8 | .fallback99 => 0x99#8 | .fallback9A => 0x9A#8 | .fallback9B => 0x9B#8
  | .fallback9C => 0x9C#8 | .fallback9D => 0x9D#8 | .fallback9E => 0x9E#8 | .fallback9F => 0x9F#8
  | .fallbackA0 => 0xA0#8 | .fallbackA1 => 0xA1#8 | .fallbackA2 => 0xA2#8 | .fallbackA3 => 0xA3#8
  | .fallbackA4 => 0xA4#8 | .fallbackA5 => 0xA5#8 | .fallbackA6 => 0xA6#8 | .fallbackA7 => 0xA7#8
  | .fallbackA8 => 0xA8#8 | .fallbackA9 => 0xA9#8 | .fallbackAA => 0xAA#8 | .fallbackAB => 0xAB#8
  | .fallbackAC => 0xAC#8 | .fallbackAD => 0xAD#8 | .fallbackAE => 0xAE#8 | .xorA => 0xAF#8
  | .fallbackB0 => 0xB0#8 | .fallbackB1 => 0xB1#8 | .fallbackB2 => 0xB2#8 | .fallbackB3 => 0xB3#8
  | .fallbackB4 => 0xB4#8 | .fallbackB5 => 0xB5#8 | .fallbackB6 => 0xB6#8 | .fallbackB7 => 0xB7#8
  | .fallbackB8 => 0xB8#8 | .fallbackB9 => 0xB9#8 | .fallbackBA => 0xBA#8 | .fallbackBB => 0xBB#8
  | .fallbackBC => 0xBC#8 | .fallbackBD => 0xBD#8 | .fallbackBE => 0xBE#8 | .fallbackBF => 0xBF#8
  | .fallbackC0 => 0xC0#8 | .fallbackC1 => 0xC1#8 | .fallbackC2 => 0xC2#8 | .jp _ => 0xC3#8
  | .fallbackC4 => 0xC4#8 | .fallbackC5 => 0xC5#8 | .fallbackC6 => 0xC6#8 | .fallbackC7 => 0xC7#8
  | .fallbackC8 => 0xC8#8 | .ret => 0xC9#8 | .fallbackCA => 0xCA#8 | .fallbackCB => 0xCB#8
  | .fallbackCC => 0xCC#8 | .call _ => 0xCD#8 | .fallbackCE => 0xCE#8 | .fallbackCF => 0xCF#8
  | .fallbackD0 => 0xD0#8 | .fallbackD1 => 0xD1#8 | .fallbackD2 => 0xD2#8 | .fallbackD3 => 0xD3#8
  | .fallbackD4 => 0xD4#8 | .fallbackD5 => 0xD5#8 | .fallbackD6 => 0xD6#8 | .fallbackD7 => 0xD7#8
  | .fallbackD8 => 0xD8#8 | .fallbackD9 => 0xD9#8 | .fallbackDA => 0xDA#8 | .fallbackDB => 0xDB#8
  | .fallbackDC => 0xDC#8 | .fallbackDD => 0xDD#8 | .fallbackDE => 0xDE#8 | .fallbackDF => 0xDF#8
  | .fallbackE0 => 0xE0#8 | .fallbackE1 => 0xE1#8 | .fallbackE2 => 0xE2#8 | .fallbackE3 => 0xE3#8
  | .fallbackE4 => 0xE4#8 | .fallbackE5 => 0xE5#8 | .fallbackE6 => 0xE6#8 | .fallbackE7 => 0xE7#8
  | .fallbackE8 => 0xE8#8 | .fallbackE9 => 0xE9#8 | .storeA _ => 0xEA#8 | .fallbackEB => 0xEB#8
  | .fallbackEC => 0xEC#8 | .fallbackED => 0xED#8 | .fallbackEE => 0xEE#8 | .fallbackEF => 0xEF#8
  | .fallbackF0 => 0xF0#8 | .fallbackF1 => 0xF1#8 | .fallbackF2 => 0xF2#8 | .fallbackF3 => 0xF3#8
  | .fallbackF4 => 0xF4#8 | .fallbackF5 => 0xF5#8 | .fallbackF6 => 0xF6#8 | .fallbackF7 => 0xF7#8
  | .fallbackF8 => 0xF8#8 | .fallbackF9 => 0xF9#8 | .loadA _ => 0xFA#8 | .fallbackFB => 0xFB#8
  | .fallbackFC => 0xFC#8 | .fallbackFD => 0xFD#8 | .fallbackFE => 0xFE#8 | .fallbackFF => 0xFF#8

/-- The operand bytes of an instruction, in ascending address order: none, `d8`, or the low and then the high byte of `a16`
(30_encoding.md R100, R103; 20_memory.md R70). Only eleven instructions have any. -/
def Instr.operandBytes : Instr → List Byte
  | .ldB d8 => [d8]
  | .ldC d8 => [d8]
  | .ldD d8 => [d8]
  | .ldE d8 => [d8]
  | .ldH d8 => [d8]
  | .ldL d8 => [d8]
  | .ldA d8 => [d8]
  | .jp a16 => [loByte a16, hiByte a16]
  | .call a16 => [loByte a16, hiByte a16]
  | .storeA a16 => [loByte a16, hiByte a16]
  | .loadA a16 => [loByte a16, hiByte a16]
  | _ => []

/-- The length of an instruction in bytes: 1, 2 or 3 (30_encoding.md R100, R107). -/
def Instr.length (i : Instr) : Nat := 1 + i.operandBytes.length

/-- The encoder: the bytes the assembler emits (30_encoding.md R109). -/
def Instr.encode (i : Instr) : List Byte := i.opcode :: i.operandBytes

/-- A fallback instruction: its opcode byte is none of the fifteen of 30_encoding.md R104. It holds of the 241 constructors
`fallbackNN` and of no other. -/
def Instr.isFallback (i : Instr) : Bool := !definedOpcodes.contains i.opcode

/-- Why a list of bytes is no instruction: it ends before the instruction does. No byte value is ever refused
(30_encoding.md R106). -/
inductive DecodeError where
  /-- There is no opcode byte. -/
  | empty
  /-- The opcode byte asks for more operand bytes than the list has. -/
  | truncated
deriving DecidableEq, Repr

/-- The decoder: the first instruction of a list of bytes, with the bytes after it; total on any bytes. -/
def decode : List Byte → Except DecodeError (Instr × List Byte)
  | [] => .error .empty
  | b0 :: rest =>
    let i := decodeBytes b0 (rest.getD 0 0) (rest.getD 1 0)
    if i.length ≤ 1 + rest.length then .ok (i, rest.drop (i.length - 1)) else .error .truncated

/-- The bytes of an instruction numbered as the opcode table numbers them: `nbits` bits, the first byte lowest, zeros above up to the
longest instruction (three bytes). -/
def tableBytes (nbits w : Nat) : List Byte :=
  let v := w % 2 ^ nbits
  [BitVec.ofNat 8 v, BitVec.ofNat 8 (v / 256), BitVec.ofNat 8 (v / 65536)]

/-- What the decoder reads from an instruction whose bits, numbered as the opcode table numbers them, are `w`. -/
def decodeTableWord (nbits w : Nat) : Option Instr :=
  match decode (tableBytes nbits w) with
  | .ok (i, _) => some i
  | .error _ => none

/-- The bytes the assembler emits for a line, whose numbers the check has bounded (30_encoding.md R105, R109). -/
def Asm.bytes : Asm → List Byte
  | .nop => [0x00#8]
  | .ldImm r d8 => [BitVec.ofNat 8 (0x06 + 8 * r.loadCode), BitVec.ofNat 8 d8]
  | .storeA a16 => [0xEA#8, BitVec.ofNat 8 a16, BitVec.ofNat 8 (a16 / 256)]
  | .loadA a16 => [0xFA#8, BitVec.ofNat 8 a16, BitVec.ofNat 8 (a16 / 256)]
  | .jp a16 => [0xC3#8, BitVec.ofNat 8 a16, BitVec.ofNat 8 (a16 / 256)]
  | .call a16 => [0xCD#8, BitVec.ofNat 8 a16, BitVec.ofNat 8 (a16 / 256)]
  | .ret => [0xC9#8]
  | .xorA => [0xAF#8]
  | .halt => [0x76#8]
  | .fallback op => [BitVec.ofNat 8 op]

/-- The assembler (30_encoding.md R109): the bytes of a well-formed line of assembly; an ill-formed line is no instruction. -/
def Asm.assemble (line : Asm) : Option (List Byte) :=
  if line.wellFormed then some line.bytes else none

end Sys2Proof
end

