-- ==== Sys2Proof/Machine/State.lean ====
section
/-! DEFINITION. The state of the CORE (10_state.md R20 to R35), one structure for each sub-block that has state of its own
(00_scope.md R2), its reset value (R50), and the reasons a step or a host call can stop. -/

namespace Sys2Proof.Machine

/-- The storage of the AddressSpace (10_state.md R31): the bytes of all eight regions as (address, byte) pairs, addresses strictly rising,
none equal to what an unlisted byte reads as (`Memory.wf`). -/
abbrev Memory := List Host.Cell

/-- The eight storage regions (10_state.md R31). -/
inductive Region where
  | rom | vram | eram | wram | oam | io | hram | ie
deriving DecidableEq, Repr

/-- The CpuCore (10_state.md R20, R30): eight 8-bit registers, SP, PC, the halted latch, and the bookkeeping counter `TCOUNT`. -/
structure Cpu where
  a : Byte
  f : Byte
  b : Byte
  c : Byte
  d : Byte
  e : Byte
  h : Byte
  l : Byte
  sp : Word
  pc : Word
  halted : Bool
  tcount : Nat
deriving DecidableEq, Repr

/-- The framebuffer `FB` (10_state.md R33): the rows rendered since reset, in rising order, each with its 160 colour indices. A row that
is not listed still holds `FB_INIT`; the bytes of a listed row are `PALETTE` of its indices (`FrameBuffer.byteAt`; logs 8 and 9). -/
abbrev FrameBuffer := List (Nat × List Colour)

/-- The VideoUnit (10_state.md R32): cycle accumulator `ACC`, scanline number `LINE`, framebuffer `FB`. -/
structure Video where
  acc : Nat
  line : Nat
  fb : FrameBuffer
deriving DecidableEq, Repr

/-- The InputLatch (10_state.md R34): eight buttons, true = pressed. -/
structure Buttons where
  right : Bool
  left : Bool
  up : Bool
  down : Bool
  a : Bool
  b : Bool
  select : Bool
  start : Bool
deriving DecidableEq, Repr

/-- The state of the machine. `frameCyc` is `FRAME_CYC` (10_state.md R35), which exists only during a `Seq.step_frame` call: `none`
between calls (log 13). -/
structure State where
  cpu : Cpu
  mem : Memory
  video : Video
  buttons : Buttons
  frameCyc : Option Nat
deriving DecidableEq, Repr

/-- The faults: there is none. "The core is designed to never fail during normal operation" (60_exceptions.md R240), so nothing raises one;
safe, since no step of the hardware is cut short. -/
inductive Fault
deriving DecidableEq, Repr

/-- The refusals. -/
inductive Refusal where
  /-- Raised by `exec` alone, for an instruction that has no meaning yet, by its mnemonic. No arm raises it now. Safe. -/
  | notModelled (mnemonic : String)
  /-- Raised by `hostCall` alone, never by `step`: the host made a call while a `Seq.step_frame` call is in progress, which
  52_machine_loop.md R224 and R225 forbid and 93_implementation_defined.md U10 asks to refuse. Safe. -/
  | hostCallDuringFrame
deriving DecidableEq, Repr

/-- The CpuCore's power-on state (10_state.md R50; which half of a pair is which: log 3). -/
def Cpu.reset : Cpu where
  a := 0x01
  f := 0xB0
  b := 0x00
  c := 0x13
  d := 0x00
  e := 0xD8
  h := 0x01
  l := 0x4D
  sp := 0xFFFE
  pc := 0x0100
  halted := false
  tcount := 0

/-- The VideoUnit's power-on state (10_state.md R50): `ACC = 0`, `LINE = 0` (log 10), `FB = FB_INIT`: no row rendered yet (log 9). -/
def Video.reset : Video where
  acc := 0
  line := 0
  fb := []

/-- The InputLatch's power-on state: all buttons released (10_state.md R50; log 6). -/
def Buttons.reset : Buttons where
  right := false
  left := false
  up := false
  down := false
  a := false
  b := false
  select := false
  start := false

/-- The machine after construction (10_state.md R50, column "After construction"; 70_reset_and_hazards.md R271): every byte of storage is
`MEM_INIT` (log 7), and no `Seq.step_frame` call is in progress. -/
def State.reset : State where
  cpu := Cpu.reset
  mem := []
  video := Video.reset
  buttons := Buttons.reset
  frameCyc := none

end Sys2Proof.Machine
end

