-- ==== Sys2Proof/Machine/Ops.lean ====
section
/-! DEFINITION. The named operations over memory and registers: storage (10_state.md R31), routing and the bus (20_memory.md R60 to R75),
the register file (10_state.md R20 to R25), the stack (42_control.md R141, R142). There is no operation for taking an exception or returning
from one: the hardware has no trap entry and no trap return (60_exceptions.md R240, R250). -/

namespace Sys2Proof.Machine

/-! ### Storage -/

/-- `MEM_INIT`: what a byte that nothing has written reads as (10_state.md R50, decision D10, log 7). -/
def memInit : Byte := 0x00

/-- The address at which a region begins (10_state.md R31). -/
def Region.base : Region → Nat
  | .rom => 0x0000
  | .vram => 0x8000
  | .eram => 0xA000
  | .wram => 0xC000
  | .oam => 0xFE00
  | .io => 0xFF00
  | .hram => 0xFF80
  | .ie => 0xFFFF

/-- The number of bytes of a region (10_state.md R31). -/
def Region.size : Region → Nat
  | .rom => 32768
  | .vram => 8192
  | .eram => 8192
  | .wram => 8192
  | .oam => 160
  | .io => 128
  | .hram => 127
  | .ie => 1

/-- A key of the storage list: the address of a byte of one of the eight regions, as 10_state.md R31 gives it (never a mirror address,
never an unusable one). -/
def isCellKey (k : Nat) : Bool :=
  decide (k < 0xE000) || (decide (0xFE00 ≤ k) && decide (k < 0xFEA0)) || (decide (0xFF00 ≤ k) && decide (k < 0x10000))

/-- The byte stored under a key. -/
def Memory.get : Memory → Nat → Byte
  | [], _ => memInit
  | (k', v) :: t, k => if k = k' then v else Memory.get t k

/-- Store a byte under a key, keeping the canonical form. -/
def Memory.set : Memory → Nat → Byte → Memory
  | [], k, v => if v = memInit then [] else [(k, v)]
  | (k', v') :: t, k, v =>
    if k < k' then (if v = memInit then (k', v') :: t else (k, v) :: (k', v') :: t)
    else if k = k' then (if v = memInit then t else (k, v) :: t)
    else (k', v') :: Memory.set t k v

/-- The keys are storage keys, strictly rising from `lo`, and no byte equals what an unlisted one reads as. -/
def Memory.risingFrom : Nat → Memory → Bool
  | _, [] => true
  | lo, (k, v) :: t => decide (lo ≤ k) && isCellKey k && decide (v ≠ memInit) && Memory.risingFrom (k + 1) t

/-- The canonical form of storage. -/
def Memory.wf (m : Memory) : Bool := Memory.risingFrom 0 m

/-- The cells of an image whose first byte has key `k`. -/
def imageCells : Nat → List Byte → Memory
  | _, [] => []
  | k, v :: t => if v = memInit then imageCells (k + 1) t else (k, v) :: imageCells (k + 1) t

/-! ### Routing and the bus -/

/-- The region and the index in it that an address selects, `none` in the unusable range (20_memory.md R62, R65, R66; mirror offset log
15). -/
def route (a : Word) : Option (Region × Nat) :=
  let n := a.toNat
  if n < 0x8000 then some (.rom, n)
  else if n < 0xA000 then some (.vram, n - 0x8000)
  else if n < 0xC000 then some (.eram, n - 0xA000)
  else if n < 0xE000 then some (.wram, n - 0xC000)
  else if n < 0xFE00 then some (.wram, n - 0xE000)
  else if n < 0xFEA0 then some (.oam, n - 0xFE00)
  else if n < 0xFF00 then none
  else if n < 0xFF80 then some (.io, n - 0xFF00)
  else if n < 0xFFFF then some (.hram, n - 0xFF80)
  else some (.ie, 0)

/-- The storage key of an address, `none` in the unusable range. -/
def cellKey (a : Word) : Option Nat := (route a).map fun p => p.1.base + p.2

/-- `UNUSABLE_READ` (00_scope.md R7; 20_memory.md R66). -/
def unusableRead : Byte := 0xFF

/-- The byte at index `i` of a region. -/
def State.regionByte (s : State) (r : Region) (i : Nat) : Byte := s.mem.get (r.base + i)

/-- The byte that a read of an address answers (20_memory.md R62, R66). -/
def Memory.read (m : Memory) (a : Word) : Byte :=
  match cellKey a with
  | some k => m.get k
  | none => unusableRead

/-- Storage after a write at an address (20_memory.md R63, R66). -/
def Memory.write (m : Memory) (a : Word) (v : Byte) : Memory :=
  match cellKey a with
  | some k => m.set k v
  | none => m

/-- `Bus.read(a)` (20_memory.md R62). -/
def State.busRead (s : State) (a : Word) : Byte := s.mem.read a

/-- `Bus.write(a, v)` (20_memory.md R63). -/
def State.busWrite (s : State) (a : Word) (v : Byte) : State := { s with mem := s.mem.write a v }

/-- `Bus.load_program(img)`: the cartridge region zeroed, then the first 32,768 bytes of the image copied from offset 0
(20_memory.md R75). -/
def State.busLoadProgram (s : State) (img : List Byte) : State :=
  { s with mem := imageCells 0 (img.take Config.romBytes) ++ s.mem.filter fun c => decide (Config.romBytes ≤ c.1) }

/-! ### The named I/O bytes (10_state.md R40, R48) -/

/-- JOYP, the input register (10_state.md R41). -/
def joypAddr : Word := 0xFF00
/-- IF, the interrupt-flag register (10_state.md R42). -/
def ifAddr : Word := 0xFF0F
/-- LCDC, LCD control (10_state.md R43). -/
def lcdcAddr : Word := 0xFF40
/-- SCY, background scroll Y (10_state.md R45). -/
def scyAddr : Word := 0xFF42
/-- SCX, background scroll X (10_state.md R45). -/
def scxAddr : Word := 0xFF43
/-- LY, current scanline (10_state.md R46). -/
def lyAddr : Word := 0xFF44
/-- BGP, background palette: storage only (10_state.md R47; log 14). -/
def bgpAddr : Word := 0xFF47
/-- IE, interrupt-enable register: storage only (10_state.md R48; log 14). -/
def ieAddr : Word := 0xFFFF

/-- Bits of IF set by a read-modify-write OR (10_state.md R42; 60_exceptions.md R245). -/
def State.raiseIf (s : State) (mask : Byte) : State := s.busWrite ifAddr (s.busRead ifAddr ||| mask)

/-! ### Registers -/

/-- The value of a general register (10_state.md R21). -/
def State.getReg (s : State) : Reg8 → Byte
  | .a => s.cpu.a
  | .f => s.cpu.f
  | .b => s.cpu.b
  | .c => s.cpu.c
  | .d => s.cpu.d
  | .e => s.cpu.e
  | .h => s.cpu.h
  | .l => s.cpu.l

/-- Write a general register; a write to F keeps only the high nibble (00_scope.md R9; 10_state.md R27). -/
def State.setReg (s : State) : Reg8 → Byte → State
  | .a, v => { s with cpu := { s.cpu with a := v } }
  | .f, v => { s with cpu := { s.cpu with f := v &&& 0xF0 } }
  | .b, v => { s with cpu := { s.cpu with b := v } }
  | .c, v => { s with cpu := { s.cpu with c := v } }
  | .d, v => { s with cpu := { s.cpu with d := v } }
  | .e, v => { s with cpu := { s.cpu with e := v } }
  | .h, v => { s with cpu := { s.cpu with h := v } }
  | .l, v => { s with cpu := { s.cpu with l := v } }

/-- The pairs AF, BC, DE, HL as 16-bit values, first-named register high (10_state.md R22; log 3). -/
def Cpu.af (c : Cpu) : Word := word16 c.a c.f
/-- BC. -/
def Cpu.bc (c : Cpu) : Word := word16 c.b c.c
/-- DE. -/
def Cpu.de (c : Cpu) : Word := word16 c.d c.e
/-- HL. -/
def Cpu.hl (c : Cpu) : Word := word16 c.h c.l

/-- What `Cpu.regs()` answers: the ten register values (00_scope.md R6; 60_exceptions.md R262). -/
structure RegFile where
  a : Byte
  f : Byte
  b : Byte
  c : Byte
  d : Byte
  e : Byte
  h : Byte
  l : Byte
  sp : Word
  pc : Word
deriving DecidableEq, Repr

/-- `Cpu.regs()` (60_exceptions.md R262). -/
def State.regs (s : State) : RegFile :=
  ⟨s.cpu.a, s.cpu.f, s.cpu.b, s.cpu.c, s.cpu.d, s.cpu.e, s.cpu.h, s.cpu.l, s.cpu.sp, s.cpu.pc⟩

/-- `PC <- t` (00_scope.md R9). -/
def State.setPc (s : State) (t : Word) : State := { s with cpu := { s.cpu with pc := t } }

/-- The PC moves past `n` bytes, modulo 65,536 (10_state.md R24). -/
def State.advance (s : State) (n : Nat) : State := s.setPc (s.cpu.pc + BitVec.ofNat 16 n)

/-- `SP <- t` (00_scope.md R9). -/
def State.setSp (s : State) (t : Word) : State := { s with cpu := { s.cpu with sp := t } }

/-- `HALTED <- 1` (10_state.md R29). -/
def State.halt (s : State) : State := { s with cpu := { s.cpu with halted := true } }

/-- `TCOUNT` grows by a cost (10_state.md R30; log 17). -/
def State.charge (s : State) (c : Cycles) : State := { s with cpu := { s.cpu with tcount := s.cpu.tcount + c.toNat } }

/-! ### The stack -/

/-- `SP <- SP - 1`, then the byte is written at `SP` (42_control.md R141). -/
def State.pushByte (s : State) (v : Byte) : State := (s.setSp (s.cpu.sp - 1)).busWrite (s.cpu.sp - 1) v

/-- Push a 16-bit value: high byte first, so that the low byte lies at the lower address (42_control.md R141). -/
def State.pushWord (s : State) (w : Word) : State := (s.pushByte (hiByte w)).pushByte (loByte w)

/-- The 16-bit value at an address: low byte there, high byte at the next address (00_scope.md R9; 20_memory.md R70). -/
def State.readWord (s : State) (a : Word) : Word := word16 (s.busRead (a + 1)) (s.busRead a)

/-- Pop a 16-bit value: the value at `SP`, and the state with `SP` moved up by two (42_control.md R142). -/
def State.popWord (s : State) : Word × State := (s.readWord s.cpu.sp, s.setSp (s.cpu.sp + 2))

/-! ### Fetch -/

/-- The three bytes from the PC on: as many as the longest instruction has (30_encoding.md R100, R101). Reads have no side effect
(20_memory.md R73), so reading all three at once is not observable (log 18). -/
def State.fetchBytes (s : State) : List Byte :=
  [s.busRead s.cpu.pc, s.busRead (s.cpu.pc + 1), s.busRead (s.cpu.pc + 2)]

/-- The instruction at the PC (30_encoding.md R101; 20_memory.md R84). -/
def State.fetch (s : State) : Instr :=
  decodeBytes (s.busRead s.cpu.pc) (s.busRead (s.cpu.pc + 1)) (s.busRead (s.cpu.pc + 2))

/-- A list of bytes stored at the addresses from `a` on, through the bus. -/
def State.storeBytes (s : State) (a : Word) : List Byte → State
  | [] => s
  | v :: t => (s.busWrite a v).storeBytes (a + 1) t

end Sys2Proof.Machine
end

