-- ==== Sys2Proof/Machine/Flags.lean ====
section
/-! DEFINITION. The flags (10_state.md R26 to R28): their places in F (decision D5, log 3), and the one flag computation of the
instruction set, that of XOR A (43_alu.md R150). -/

namespace Sys2Proof.Machine

/-- The zero flag, `F[7]` (10_state.md R26). -/
def Cpu.flagZ (c : Cpu) : Bool := c.f.getLsbD 7
/-- The subtract flag, `F[6]`. -/
def Cpu.flagN (c : Cpu) : Bool := c.f.getLsbD 6
/-- The half-carry flag, `F[5]`. -/
def Cpu.flagH (c : Cpu) : Bool := c.f.getLsbD 5
/-- The carry flag, `F[4]`. -/
def Cpu.flagC (c : Cpu) : Bool := c.f.getLsbD 4

/-- The flag byte with the four flags given and the low nibble zero (10_state.md R26, R27). -/
def flagByte (z n h c : Bool) : Byte :=
  (if z then 0x80 else 0x00) ||| (if n then 0x40 else 0x00) ||| (if h then 0x20 else 0x00) ||| (if c then 0x10 else 0x00)

/-- The flags after an exclusive-or with result `r`: zero as the result says, the other three cleared (43_alu.md R150). -/
def xorFlags (r : Byte) : Byte := flagByte (decide (r = 0)) false false false

end Sys2Proof.Machine
end

