-- ==== Sys2Proof/Machine/Operands.lean ====
section
/-! DEFINITION. The operand forms. The instruction set has two addressing modes, immediate and absolute (41_loads.md, head), beside the
register named by the opcode. -/

namespace Sys2Proof.Machine

/-- Where a load or store takes its value from. -/
inductive Source where
  /-- The operand byte after the opcode (30_encoding.md R103). -/
  | imm8 (v : Byte)
  /-- A general register. -/
  | reg (r : Reg8)
  /-- The byte at a 16-bit absolute address (41_loads.md R134). -/
  | absolute (a : Word)
deriving DecidableEq, Repr

/-- Where a load or store puts its value. -/
inductive Dest where
  /-- A general register. -/
  | reg (r : Reg8)
  /-- The byte at a 16-bit absolute address (41_loads.md R133). -/
  | absolute (a : Word)
deriving DecidableEq, Repr

/-- The value of a source operand. -/
def Source.read (s : State) : Source → Byte
  | .imm8 v => v
  | .reg r => s.getReg r
  | .absolute a => s.busRead a

/-- The state after a value is put at a destination operand. -/
def Dest.write (s : State) (v : Byte) : Dest → State
  | .reg r => s.setReg r v
  | .absolute a => s.busWrite a v

/-- A load or store of `len` bytes' length: the PC moves past the instruction, the source is read, then the destination is written
(41_loads.md R125, R133, R134; 20_memory.md R81). No flag changes. -/
def transfer (len : Nat) (dst : Dest) (src : Source) (s : State) : State :=
  dst.write (s.advance len) (src.read (s.advance len))

end Sys2Proof.Machine
end

