-- ==== Sys2Proof/Machine/Alu.lean ====
section
/-! DEFINITION. Arithmetic and logic (43_alu.md): one instruction. -/

namespace Sys2Proof.Machine

/-- `XOR A`: the accumulator exclusive-or itself, and all four flags from the result (43_alu.md R150). -/
def execXorA (s : State) : Host.Outcome State Fault Refusal :=
  let r := s.getReg .a ^^^ s.getReg .a
  .next (((s.advance 1).setReg .a r).setReg .f (xorFlags r))

end Sys2Proof.Machine
end

