-- ==== Sys2Proof/Machine/Control.lean ====
section
/-! DEFINITION. Control transfer (42_control.md): jump, call, return. -/

namespace Sys2Proof.Machine

/-- `JP a16`: the PC is loaded with the operand (42_control.md R140). -/
def execJp (a16 : Word) (s : State) : Host.Outcome State Fault Refusal := .next (s.setPc a16)

/-- `CALL a16`: the address after the operand bytes is pushed, and the PC is loaded with the operand (42_control.md R141). -/
def execCall (a16 : Word) (s : State) : Host.Outcome State Fault Refusal :=
  .next (((s.advance 3).pushWord (s.advance 3).cpu.pc).setPc a16)

/-- `RET`: the PC is loaded with the word popped from the stack (42_control.md R142). -/
def execRet (s : State) : Host.Outcome State Fault Refusal :=
  .next ((s.advance 1).popWord.2.setPc (s.advance 1).popWord.1)

end Sys2Proof.Machine
end

