-- ==== Sys2Proof/Machine/Fallback.lean ====
section
/-! DEFINITION. The 241 fallback opcodes (44_halt_and_fallback.md R160): each acts as a one-byte no-operation. The one shared operation is
`fallbackNoOp`; each opcode byte has a definition of its own over it. -/

namespace Sys2Proof.Machine

/-- A fallback opcode: the PC moves past the one byte, and nothing else happens (44_halt_and_fallback.md R160). -/
def fallbackNoOp (s : State) : Host.Outcome State Fault Refusal := .next (s.advance 1)

/-- Opcode byte 0x01 (R160). -/
def execFallback01 (s : State) : Host.Outcome State Fault Refusal := fallbackNoOp s
/-- Opcode byte 0x02 (R160). -/
def execFallback02 (s : State) : Host.Outcome State Fault Refusal := fallbackNoOp s
/-- Opcode byte 0x03 (R160). -/
def execFallback03 (s : State) : Host.Outcome State Fault Refusal := fallbackNoOp s
/-- Opcode byte 0x04 (R160). -/
def execFallback04 (s : State) : Host.Outcome State Fault Refusal := fallbackNoOp s
/-- Opcode byte 0x05 (R160). -/
def execFallback05 (s : State) : Host.Outcome State Fault Refusal := fallbackNoOp s
/-- Opcode byte 0x07 (R160). -/
def execFallback07 (s : State) : Host.Outcome State Fault Refusal := fallbackNoOp s
/-- Opcode byte 0x08 (R160). -/
def execFallback08 (s : State) : Host.Outcome State Fault Refusal := fallbackNoOp s
/-- Opcode byte 0x09 (R160). -/
def execFallback09 (s : State) : Host.Outcome State Fault Refusal := fallbackNoOp s
/-- Opcode byte 0x0A (R160). -/
def execFallback0A (s : State) : Host.Outcome State Fault Refusal := fallbackNoOp s
/-- Opcode byte 0x0B (R160). -/
def execFallback0B (s : State) : Host.Outcome State Fault Refusal := fallbackNoOp s
/-- Opcode byte 0x0C (R160). -/
def execFallback0C (s : State) : Host.Outcome State Fault Refusal := fallbackNoOp s
/-- Opcode byte 0x0D (R160). -/
def execFallback0D (s : State) : Host.Outcome State Fault Refusal := fallbackNoOp s
/-- Opcode byte 0x0F (R160). -/
def execFallback0F (s : State) : Host.Outcome State Fault Refusal := fallbackNoOp s
/-- Opcode byte 0x10 (R160). -/
def execFallback10 (s : State) : Host.Outcome State Fault Refusal := fallbackNoOp s
/-- Opcode byte 0x11 (R160). -/
def execFallback11 (s : State) : Host.Outcome State Fault Refusal := fallbackNoOp s
/-- Opcode byte 0x12 (R160). -/
def execFallback12 (s : State) : Host.Outcome State Fault Refusal := fallbackNoOp s
/-- Opcode byte 0x13 (R160). -/
def execFallback13 (s : State) : Host.Outcome State Fault Refusal := fallbackNoOp s
/-- Opcode byte 0x14 (R160). -/
def execFallback14 (s : State) : Host.Outcome State Fault Refusal := fallbackNoOp s
/-- Opcode byte 0x15 (R160). -/
def execFallback15 (s : State) : Host.Outcome State Fault Refusal := fallbackNoOp s
/-- Opcode byte 0x17 (R160). -/
def execFallback17 (s : State) : Host.Outcome State Fault Refusal := fallbackNoOp s
/-- Opcode byte 0x18 (R160). -/
def execFallback18 (s : State) : Host.Outcome State Fault Refusal := fallbackNoOp s
/-- Opcode byte 0x19 (R160). -/
def execFallback19 (s : State) : Host.Outcome State Fault Refusal := fallbackNoOp s
/-- Opcode byte 0x1A (R160). -/
def execFallback1A (s : State) : Host.Outcome State Fault Refusal := fallbackNoOp s
/-- Opcode byte 0x1B (R160). -/
def execFallback1B (s : State) : Host.Outcome State Fault Refusal := fallbackNoOp s
/-- Opcode byte 0x1C (R160). -/
def execFallback1C (s : State) : Host.Outcome State Fault Refusal := fallbackNoOp s
/-- Opcode byte 0x1D (R160). -/
def execFallback1D (s : State) : Host.Outcome State Fault Refusal := fallbackNoOp s
/-- Opcode byte 0x1F (R160). -/
def execFallback1F (s : State) : Host.Outcome State Fault Refusal := fallbackNoOp s
/-- Opcode byte 0x20 (R160). -/
def execFallback20 (s : State) : Host.Outcome State Fault Refusal := fallbackNoOp s
/-- Opcode byte 0x21 (R160). -/
def execFallback21 (s : State) : Host.Outcome State Fault Refusal := fallbackNoOp s
/-- Opcode byte 0x22 (R160). -/
def execFallback22 (s : State) : Host.Outcome State Fault Refusal := fallbackNoOp s
/-- Opcode byte 0x23 (R160). -/
def execFallback23 (s : State) : Host.Outcome State Fault Refusal := fallbackNoOp s
/-- Opcode byte 0x24 (R160). -/
def execFallback24 (s : State) : Host.Outcome State Fault Refusal := fallbackNoOp s
/-- Opcode byte 0x25 (R160). -/
def execFallback25 (s : State) : Host.Outcome State Fault Refusal := fallbackNoOp s
/-- Opcode byte 0x27 (R160). -/
def execFallback27 (s : State) : Host.Outcome State Fault Refusal := fallbackNoOp s
/-- Opcode byte 0x28 (R160). -/
def execFallback28 (s : State) : Host.Outcome State Fault Refusal := fallbackNoOp s
/-- Opcode byte 0x29 (R160). -/
def execFallback29 (s : State) : Host.Outcome State Fault Refusal := fallbackNoOp s
/-- Opcode byte 0x2A (R160). -/
def execFallback2A (s : State) : Host.Outcome State Fault Refusal := fallbackNoOp s
/-- Opcode byte 0x2B (R160). -/
def execFallback2B (s : State) : Host.Outcome State Fault Refusal := fallbackNoOp s
/-- Opcode byte 0x2C (R160). -/
def execFallback2C (s : State) : Host.Outcome State Fault Refusal := fallbackNoOp s
/-- Opcode byte 0x2D (R160). -/
def execFallback2D (s : State) : Host.Outcome State Fault Refusal := fallbackNoOp s
/-- Opcode byte 0x2F (R160). -/
def execFallback2F (s : State) : Host.Outcome State Fault Refusal := fallbackNoOp s
/-- Opcode byte 0x30 (R160). -/
def execFallback30 (s : State) : Host.Outcome State Fault Refusal := fallbackNoOp s
/-- Opcode byte 0x31 (R160). -/
def execFallback31 (s : State) : Host.Outcome State Fault Refusal := fallbackNoOp s
/-- Opcode byte 0x32 (R160). -/
def execFallback32 (s : State) : Host.Outcome State Fault Refusal := fallbackNoOp s
/-- Opcode byte 0x33 (R160). -/
def execFallback33 (s : State) : Host.Outcome State Fault Refusal := fallbackNoOp s
/-- Opcode byte 0x34 (R160). -/
def execFallback34 (s : State) : Host.Outcome State Fault Refusal := fallbackNoOp s
/-- Opcode byte 0x35 (R160). -/
def execFallback35 (s : State) : Host.Outcome State Fault Refusal := fallbackNoOp s
/-- Opcode byte 0x36 (R160). -/
def execFallback36 (s : State) : Host.Outcome State Fault Refusal := fallbackNoOp s
/-- Opcode byte 0x37 (R160). -/
def execFallback37 (s : State) : Host.Outcome State Fault Refusal := fallbackNoOp s
/-- Opcode byte 0x38 (R160). -/
def execFallback38 (s : State) : Host.Outcome State Fault Refusal := fallbackNoOp s
/-- Opcode byte 0x39 (R160). -/
def execFallback39 (s : State) : Host.Outcome State Fault Refusal := fallbackNoOp s
/-- Opcode byte 0x3A (R160). -/
def execFallback3A (s : State) : Host.Outcome State Fault Refusal := fallbackNoOp s
/-- Opcode byte 0x3B (R160). -/
def execFallback3B (s : State) : Host.Outcome State Fault Refusal := fallbackNoOp s
/-- Opcode byte 0x3C (R160). -/
def execFallback3C (s : State) : Host.Outcome State Fault Refusal := fallbackNoOp s
/-- Opcode byte 0x3D (R160). -/
def execFallback3D (s : State) : Host.Outcome State Fault Refusal := fallbackNoOp s
/-- Opcode byte 0x3F (R160). -/
def execFallback3F (s : State) : Host.Outcome State Fault Refusal := fallbackNoOp s
/-- Opcode byte 0x40 (R160). -/
def execFallback40 (s : State) : Host.Outcome State Fault Refusal := fallbackNoOp s
/-- Opcode byte 0x41 (R160). -/
def execFallback41 (s : State) : Host.Outcome State Fault Refusal := fallbackNoOp s
/-- Opcode byte 0x42 (R160). -/
def execFallback42 (s : State) : Host.Outcome State Fault Refusal := fallbackNoOp s
/-- Opcode byte 0x43 (R160). -/
def execFallback43 (s : State) : Host.Outcome State Fault Refusal := fallbackNoOp s
/-- Opcode byte 0x44 (R160). -/
def execFallback44 (s : State) : Host.Outcome State Fault Refusal := fallbackNoOp s
/-- Opcode byte 0x45 (R160). -/
def execFallback45 (s : State) : Host.Outcome State Fault Refusal := fallbackNoOp s
/-- Opcode byte 0x46 (R160). -/
def execFallback46 (s : State) : Host.Outcome State Fault Refusal := fallbackNoOp s
/-- Opcode byte 0x47 (R160). -/
def execFallback47 (s : State) : Host.Outcome State Fault Refusal := fallbackNoOp s
/-- Opcode byte 0x48 (R160). -/
def execFallback48 (s : State) : Host.Outcome State Fault Refusal := fallbackNoOp s
/-- Opcode byte 0x49 (R160). -/
def execFallback49 (s : State) : Host.Outcome State Fault Refusal := fallbackNoOp s
/-- Opcode byte 0x4A (R160). -/
def execFallback4A (s : State) : Host.Outcome State Fault Refusal := fallbackNoOp s
/-- Opcode byte 0x4B (R160). -/
def execFallback4B (s : State) : Host.Outcome State Fault Refusal := fallbackNoOp s
/-- Opcode byte 0x4C (R160). -/
def execFallback4C (s : State) : Host.Outcome State Fault Refusal := fallbackNoOp s
/-- Opcode byte 0x4D (R160). -/
def execFallback4D (s : State) : Host.Outcome State Fault Refusal := fallbackNoOp s
/-- Opcode byte 0x4E (R160). -/
def execFallback4E (s : State) : Host.Outcome State Fault Refusal := fallbackNoOp s
/-- Opcode byte 0x4F (R160). -/
def execFallback4F (s : State) : Host.Outcome State Fault Refusal := fallbackNoOp s
/-- Opcode byte 0x50 (R160). -/
def execFallback50 (s : State) : Host.Outcome State Fault Refusal := fallbackNoOp s
/-- Opcode byte 0x51 (R160). -/
def execFallback51 (s : State) : Host.Outcome State Fault Refusal := fallbackNoOp s
/-- Opcode byte 0x52 (R160). -/
def execFallback52 (s : State) : Host.Outcome State Fault Refusal := fallbackNoOp s
/-- Opcode byte 0x53 (R160). -/
def execFallback53 (s : State) : Host.Outcome State Fault Refusal := fallbackNoOp s
/-- Opcode byte 0x54 (R160). -/
def execFallback54 (s : State) : Host.Outcome State Fault Refusal := fallbackNoOp s
/-- Opcode byte 0x55 (R160). -/
def execFallback55 (s : State) : Host.Outcome State Fault Refusal := fallbackNoOp s
/-- Opcode byte 0x56 (R160). -/
def execFallback56 (s : State) : Host.Outcome State Fault Refusal := fallbackNoOp s
/-- Opcode byte 0x57 (R160). -/
def execFallback57 (s : State) : Host.Outcome State Fault Refusal := fallbackNoOp s
/-- Opcode byte 0x58 (R160). -/
def execFallback58 (s : State) : Host.Outcome State Fault Refusal := fallbackNoOp s
/-- Opcode byte 0x59 (R160). -/
def execFallback59 (s : State) : Host.Outcome State Fault Refusal := fallbackNoOp s
/-- Opcode byte 0x5A (R160). -/
def execFallback5A (s : State) : Host.Outcome State Fault Refusal := fallbackNoOp s
/-- Opcode byte 0x5B (R160). -/
def execFallback5B (s : State) : Host.Outcome State Fault Refusal := fallbackNoOp s
/-- Opcode byte 0x5C (R160). -/
def execFallback5C (s : State) : Host.Outcome State Fault Refusal := fallbackNoOp s
/-- Opcode byte 0x5D (R160). -/
def execFallback5D (s : State) : Host.Outcome State Fault Refusal := fallbackNoOp s
/-- Opcode byte 0x5E (R160). -/
def execFallback5E (s : State) : Host.Outcome State Fault Refusal := fallbackNoOp s
/-- Opcode byte 0x5F (R160). -/
def execFallback5F (s : State) : Host.Outcome State Fault Refusal := fallbackNoOp s
/-- Opcode byte 0x60 (R160). -/
def execFallback60 (s : State) : Host.Outcome State Fault Refusal := fallbackNoOp s
/-- Opcode byte 0x61 (R160). -/
def execFallback61 (s : State) : Host.Outcome State Fault Refusal := fallbackNoOp s
/-- Opcode byte 0x62 (R160). -/
def execFallback62 (s : State) : Host.Outcome State Fault Refusal := fallbackNoOp s
/-- Opcode byte 0x63 (R160). -/
def execFallback63 (s : State) : Host.Outcome State Fault Refusal := fallbackNoOp s
/-- Opcode byte 0x64 (R160). -/
def execFallback64 (s : State) : Host.Outcome State Fault Refusal := fallbackNoOp s
/-- Opcode byte 0x65 (R160). -/
def execFallback65 (s : State) : Host.Outcome State Fault Refusal := fallbackNoOp s
/-- Opcode byte 0x66 (R160). -/
def execFallback66 (s : State) : Host.Outcome State Fault Refusal := fallbackNoOp s
/-- Opcode byte 0x67 (R160). -/
def execFallback67 (s : State) : Host.Outcome State Fault Refusal := fallbackNoOp s
/-- Opcode byte 0x68 (R160). -/
def execFallback68 (s : State) : Host.Outcome State Fault Refusal := fallbackNoOp s
/-- Opcode byte 0x69 (R160). -/
def execFallback69 (s : State) : Host.Outcome State Fault Refusal := fallbackNoOp s
/-- Opcode byte 0x6A (R160). -/
def execFallback6A (s : State) : Host.Outcome State Fault Refusal := fallbackNoOp s
/-- Opcode byte 0x6B (R160). -/
def execFallback6B (s : State) : Host.Outcome State Fault Refusal := fallbackNoOp s
/-- Opcode byte 0x6C (R160). -/
def execFallback6C (s : State) : Host.Outcome State Fault Refusal := fallbackNoOp s
/-- Opcode byte 0x6D (R160). -/
def execFallback6D (s : State) : Host.Outcome State Fault Refusal := fallbackNoOp s
/-- Opcode byte 0x6E (R160). -/
def execFallback6E (s : State) : Host.Outcome State Fault Refusal := fallbackNoOp s
/-- Opcode byte 0x6F (R160). -/
def execFallback6F (s : State) : Host.Outcome State Fault Refusal := fallbackNoOp s
/-- Opcode byte 0x70 (R160). -/
def execFallback70 (s : State) : Host.Outcome State Fault Refusal := fallbackNoOp s
/-- Opcode byte 0x71 (R160). -/
def execFallback71 (s : State) : Host.Outcome State Fault Refusal := fallbackNoOp s
/-- Opcode byte 0x72 (R160). -/
def execFallback72 (s : State) : Host.Outcome State Fault Refusal := fallbackNoOp s
/-- Opcode byte 0x73 (R160). -/
def execFallback73 (s : State) : Host.Outcome State Fault Refusal := fallbackNoOp s
/-- Opcode byte 0x74 (R160). -/
def execFallback74 (s : State) : Host.Outcome State Fault Refusal := fallbackNoOp s
/-- Opcode byte 0x75 (R160). -/
def execFallback75 (s : State) : Host.Outcome State Fault Refusal := fallbackNoOp s
/-- Opcode byte 0x77 (R160). -/
def execFallback77 (s : State) : Host.Outcome State Fault Refusal := fallbackNoOp s
/-- Opcode byte 0x78 (R160). -/
def execFallback78 (s : State) : Host.Outcome State Fault Refusal := fallbackNoOp s
/-- Opcode byte 0x79 (R160). -/
def execFallback79 (s : State) : Host.Outcome State Fault Refusal := fallbackNoOp s
/-- Opcode byte 0x7A (R160). -/
def execFallback7A (s : State) : Host.Outcome State Fault Refusal := fallbackNoOp s
/-- Opcode byte 0x7B (R160). -/
def execFallback7B (s : State) : Host.Outcome State Fault Refusal := fallbackNoOp s
/-- Opcode byte 0x7C (R160). -/
def execFallback7C (s : State) : Host.Outcome State Fault Refusal := fallbackNoOp s
/-- Opcode byte 0x7D (R160). -/
def execFallback7D (s : State) : Host.Outcome State Fault Refusal := fallbackNoOp s
/-- Opcode byte 0x7E (R160). -/
def execFallback7E (s : State) : Host.Outcome State Fault Refusal := fallbackNoOp s
/-- Opcode byte 0x7F (R160). -/
def execFallback7F (s : State) : Host.Outcome State Fault Refusal := fallbackNoOp s
/-- Opcode byte 0x80 (R160). -/
def execFallback80 (s : State) : Host.Outcome State Fault Refusal := fallbackNoOp s
/-- Opcode byte 0x81 (R160). -/
def execFallback81 (s : State) : Host.Outcome State Fault Refusal := fallbackNoOp s
/-- Opcode byte 0x82 (R160). -/
def execFallback82 (s : State) : Host.Outcome State Fault Refusal := fallbackNoOp s
/-- Opcode byte 0x83 (R160). -/
def execFallback83 (s : State) : Host.Outcome State Fault Refusal := fallbackNoOp s
/-- Opcode byte 0x84 (R160). -/
def execFallback84 (s : State) : Host.Outcome State Fault Refusal := fallbackNoOp s
/-- Opcode byte 0x85 (R160). -/
def execFallback85 (s : State) : Host.Outcome State Fault Refusal := fallbackNoOp s
/-- Opcode byte 0x86 (R160). -/
def execFallback86 (s : State) : Host.Outcome State Fault Refusal := fallbackNoOp s
/-- Opcode byte 0x87 (R160). -/
def execFallback87 (s : State) : Host.Outcome State Fault Refusal := fallbackNoOp s
/-- Opcode byte 0x88 (R160). -/
def execFallback88 (s : State) : Host.Outcome State Fault Refusal := fallbackNoOp s
/-- Opcode byte 0x89 (R160). -/
def execFallback89 (s : State) : Host.Outcome State Fault Refusal := fallbackNoOp s
/-- Opcode byte 0x8A (R160). -/
def execFallback8A (s : State) : Host.Outcome State Fault Refusal := fallbackNoOp s
/-- Opcode byte 0x8B (R160). -/
def execFallback8B (s : State) : Host.Outcome State Fault Refusal := fallbackNoOp s
/-- Opcode byte 0x8C (R160). -/
def execFallback8C (s : State) : Host.Outcome State Fault Refusal := fallbackNoOp s
/-- Opcode byte 0x8D (R160). -/
def execFallback8D (s : State) : Host.Outcome State Fault Refusal := fallbackNoOp s
/-- Opcode byte 0x8E (R160). -/
def execFallback8E (s : State) : Host.Outcome State Fault Refusal := fallbackNoOp s
/-- Opcode byte 0x8F (R160). -/
def execFallback8F (s : State) : Host.Outcome State Fault Refusal := fallbackNoOp s
/-- Opcode byte 0x90 (R160). -/
def execFallback90 (s : State) : Host.Outcome State Fault Refusal := fallbackNoOp s
/-- Opcode byte 0x91 (R160). -/
def execFallback91 (s : State) : Host.Outcome State Fault Refusal := fallbackNoOp s
/-- Opcode byte 0x92 (R160). -/
def execFallback92 (s : State) : Host.Outcome State Fault Refusal := fallbackNoOp s
/-- Opcode byte 0x93 (R160). -/
def execFallback93 (s : State) : Host.Outcome State Fault Refusal := fallbackNoOp s
/-- Opcode byte 0x94 (R160). -/
def execFallback94 (s : State) : Host.Outcome State Fault Refusal := fallbackNoOp s
/-- Opcode byte 0x95 (R160). -/
def execFallback95 (s : State) : Host.Outcome State Fault Refusal := fallbackNoOp s
/-- Opcode byte 0x96 (R160). -/
def execFallback96 (s : State) : Host.Outcome State Fault Refusal := fallbackNoOp s
/-- Opcode byte 0x97 (R160). -/
def execFallback97 (s : State) : Host.Outcome State Fault Refusal := fallbackNoOp s
/-- Opcode byte 0x98 (R160). -/
def execFallback98 (s : State) : Host.Outcome State Fault Refusal := fallbackNoOp s
/-- Opcode byte 0x99 (R160). -/
def execFallback99 (s : State) : Host.Outcome State Fault Refusal := fallbackNoOp s
/-- Opcode byte 0x9A (R160). -/
def execFallback9A (s : State) : Host.Outcome State Fault Refusal := fallbackNoOp s
/-- Opcode byte 0x9B (R160). -/
def execFallback9B (s : State) : Host.Outcome State Fault Refusal := fallbackNoOp s
/-- Opcode byte 0x9C (R160). -/
def execFallback9C (s : State) : Host.Outcome State Fault Refusal := fallbackNoOp s
/-- Opcode byte 0x9D (R160). -/
def execFallback9D (s : State) : Host.Outcome State Fault Refusal := fallbackNoOp s
/-- Opcode byte 0x9E (R160). -/
def execFallback9E (s : State) : Host.Outcome State Fault Refusal := fallbackNoOp s
/-- Opcode byte 0x9F (R160). -/
def execFallback9F (s : State) : Host.Outcome State Fault Refusal := fallbackNoOp s
/-- Opcode byte 0xA0 (R160). -/
def execFallbackA0 (s : State) : Host.Outcome State Fault Refusal := fallbackNoOp s
/-- Opcode byte 0xA1 (R160). -/
def execFallbackA1 (s : State) : Host.Outcome State Fault Refusal := fallbackNoOp s
/-- Opcode byte 0xA2 (R160). -/
def execFallbackA2 (s : State) : Host.Outcome State Fault Refusal := fallbackNoOp s
/-- Opcode byte 0xA3 (R160). -/
def execFallbackA3 (s : State) : Host.Outcome State Fault Refusal := fallbackNoOp s
/-- Opcode byte 0xA4 (R160). -/
def execFallbackA4 (s : State) : Host.Outcome State Fault Refusal := fallbackNoOp s
/-- Opcode byte 0xA5 (R160). -/
def execFallbackA5 (s : State) : Host.Outcome State Fault Refusal := fallbackNoOp s
/-- Opcode byte 0xA6 (R160). -/
def execFallbackA6 (s : State) : Host.Outcome State Fault Refusal := fallbackNoOp s
/-- Opcode byte 0xA7 (R160). -/
def execFallbackA7 (s : State) : Host.Outcome State Fault Refusal := fallbackNoOp s
/-- Opcode byte 0xA8 (R160). -/
def execFallbackA8 (s : State) : Host.Outcome State Fault Refusal := fallbackNoOp s
/-- Opcode byte 0xA9 (R160). -/
def execFallbackA9 (s : State) : Host.Outcome State Fault Refusal := fallbackNoOp s
/-- Opcode byte 0xAA (R160). -/
def execFallbackAA (s : State) : Host.Outcome State Fault Refusal := fallbackNoOp s
/-- Opcode byte 0xAB (R160). -/
def execFallbackAB (s : State) : Host.Outcome State Fault Refusal := fallbackNoOp s
/-- Opcode byte 0xAC (R160). -/
def execFallbackAC (s : State) : Host.Outcome State Fault Refusal := fallbackNoOp s
/-- Opcode byte 0xAD (R160). -/
def execFallbackAD (s : State) : Host.Outcome State Fault Refusal := fallbackNoOp s
/-- Opcode byte 0xAE (R160). -/
def execFallbackAE (s : State) : Host.Outcome State Fault Refusal := fallbackNoOp s
/-- Opcode byte 0xB0 (R160). -/
def execFallbackB0 (s : State) : Host.Outcome State Fault Refusal := fallbackNoOp s
/-- Opcode byte 0xB1 (R160). -/
def execFallbackB1 (s : State) : Host.Outcome State Fault Refusal := fallbackNoOp s
/-- Opcode byte 0xB2 (R160). -/
def execFallbackB2 (s : State) : Host.Outcome State Fault Refusal := fallbackNoOp s
/-- Opcode byte 0xB3 (R160). -/
def execFallbackB3 (s : State) : Host.Outcome State Fault Refusal := fallbackNoOp s
/-- Opcode byte 0xB4 (R160). -/
def execFallbackB4 (s : State) : Host.Outcome State Fault Refusal := fallbackNoOp s
/-- Opcode byte 0xB5 (R160). -/
def execFallbackB5 (s : State) : Host.Outcome State Fault Refusal := fallbackNoOp s
/-- Opcode byte 0xB6 (R160). -/
def execFallbackB6 (s : State) : Host.Outcome State Fault Refusal := fallbackNoOp s
/-- Opcode byte 0xB7 (R160). -/
def execFallbackB7 (s : State) : Host.Outcome State Fault Refusal := fallbackNoOp s
/-- Opcode byte 0xB8 (R160). -/
def execFallbackB8 (s : State) : Host.Outcome State Fault Refusal := fallbackNoOp s
/-- Opcode byte 0xB9 (R160). -/
def execFallbackB9 (s : State) : Host.Outcome State Fault Refusal := fallbackNoOp s
/-- Opcode byte 0xBA (R160). -/
def execFallbackBA (s : State) : Host.Outcome State Fault Refusal := fallbackNoOp s
/-- Opcode byte 0xBB (R160). -/
def execFallbackBB (s : State) : Host.Outcome State Fault Refusal := fallbackNoOp s
/-- Opcode byte 0xBC (R160). -/
def execFallbackBC (s : State) : Host.Outcome State Fault Refusal := fallbackNoOp s
/-- Opcode byte 0xBD (R160). -/
def execFallbackBD (s : State) : Host.Outcome State Fault Refusal := fallbackNoOp s
/-- Opcode byte 0xBE (R160). -/
def execFallbackBE (s : State) : Host.Outcome State Fault Refusal := fallbackNoOp s
/-- Opcode byte 0xBF (R160). -/
def execFallbackBF (s : State) : Host.Outcome State Fault Refusal := fallbackNoOp s
/-- Opcode byte 0xC0 (R160). -/
def execFallbackC0 (s : State) : Host.Outcome State Fault Refusal := fallbackNoOp s
/-- Opcode byte 0xC1 (R160). -/
def execFallbackC1 (s : State) : Host.Outcome State Fault Refusal := fallbackNoOp s
/-- Opcode byte 0xC2 (R160). -/
def execFallbackC2 (s : State) : Host.Outcome State Fault Refusal := fallbackNoOp s
/-- Opcode byte 0xC4 (R160). -/
def execFallbackC4 (s : State) : Host.Outcome State Fault Refusal := fallbackNoOp s
/-- Opcode byte 0xC5 (R160). -/
def execFallbackC5 (s : State) : Host.Outcome State Fault Refusal := fallbackNoOp s
/-- Opcode byte 0xC6 (R160). -/
def execFallbackC6 (s : State) : Host.Outcome State Fault Refusal := fallbackNoOp s
/-- Opcode byte 0xC7 (R160). -/
def execFallbackC7 (s : State) : Host.Outcome State Fault Refusal := fallbackNoOp s
/-- Opcode byte 0xC8 (R160). -/
def execFallbackC8 (s : State) : Host.Outcome State Fault Refusal := fallbackNoOp s
/-- Opcode byte 0xCA (R160). -/
def execFallbackCA (s : State) : Host.Outcome State Fault Refusal := fallbackNoOp s
/-- Opcode byte 0xCB (R160). -/
def execFallbackCB (s : State) : Host.Outcome State Fault Refusal := fallbackNoOp s
/-- Opcode byte 0xCC (R160). -/
def execFallbackCC (s : State) : Host.Outcome State Fault Refusal := fallbackNoOp s
/-- Opcode byte 0xCE (R160). -/
def execFallbackCE (s : State) : Host.Outcome State Fault Refusal := fallbackNoOp s
/-- Opcode byte 0xCF (R160). -/
def execFallbackCF (s : State) : Host.Outcome State Fault Refusal := fallbackNoOp s
/-- Opcode byte 0xD0 (R160). -/
def execFallbackD0 (s : State) : Host.Outcome State Fault Refusal := fallbackNoOp s
/-- Opcode byte 0xD1 (R160). -/
def execFallbackD1 (s : State) : Host.Outcome State Fault Refusal := fallbackNoOp s
/-- Opcode byte 0xD2 (R160). -/
def execFallbackD2 (s : State) : Host.Outcome State Fault Refusal := fallbackNoOp s
/-- Opcode byte 0xD3 (R160). -/
def execFallbackD3 (s : State) : Host.Outcome State Fault Refusal := fallbackNoOp s
/-- Opcode byte 0xD4 (R160). -/
def execFallbackD4 (s : State) : Host.Outcome State Fault Refusal := fallbackNoOp s
/-- Opcode byte 0xD5 (R160). -/
def execFallbackD5 (s : State) : Host.Outcome State Fault Refusal := fallbackNoOp s
/-- Opcode byte 0xD6 (R160). -/
def execFallbackD6 (s : State) : Host.Outcome State Fault Refusal := fallbackNoOp s
/-- Opcode byte 0xD7 (R160). -/
def execFallbackD7 (s : State) : Host.Outcome State Fault Refusal := fallbackNoOp s
/-- Opcode byte 0xD8 (R160). -/
def execFallbackD8 (s : State) : Host.Outcome State Fault Refusal := fallbackNoOp s
/-- Opcode byte 0xD9 (R160). -/
def execFallbackD9 (s : State) : Host.Outcome State Fault Refusal := fallbackNoOp s
/-- Opcode byte 0xDA (R160). -/
def execFallbackDA (s : State) : Host.Outcome State Fault Refusal := fallbackNoOp s
/-- Opcode byte 0xDB (R160). -/
def execFallbackDB (s : State) : Host.Outcome State Fault Refusal := fallbackNoOp s
/-- Opcode byte 0xDC (R160). -/
def execFallbackDC (s : State) : Host.Outcome State Fault Refusal := fallbackNoOp s
/-- Opcode byte 0xDD (R160). -/
def execFallbackDD (s : State) : Host.Outcome State Fault Refusal := fallbackNoOp s
/-- Opcode byte 0xDE (R160). -/
def execFallbackDE (s : State) : Host.Outcome State Fault Refusal := fallbackNoOp s
/-- Opcode byte 0xDF (R160). -/
def execFallbackDF (s : State) : Host.Outcome State Fault Refusal := fallbackNoOp s
/-- Opcode byte 0xE0 (R160). -/
def execFallbackE0 (s : State) : Host.Outcome State Fault Refusal := fallbackNoOp s
/-- Opcode byte 0xE1 (R160). -/
def execFallbackE1 (s : State) : Host.Outcome State Fault Refusal := fallbackNoOp s
/-- Opcode byte 0xE2 (R160). -/
def execFallbackE2 (s : State) : Host.Outcome State Fault Refusal := fallbackNoOp s
/-- Opcode byte 0xE3 (R160). -/
def execFallbackE3 (s : State) : Host.Outcome State Fault Refusal := fallbackNoOp s
/-- Opcode byte 0xE4 (R160). -/
def execFallbackE4 (s : State) : Host.Outcome State Fault Refusal := fallbackNoOp s
/-- Opcode byte 0xE5 (R160). -/
def execFallbackE5 (s : State) : Host.Outcome State Fault Refusal := fallbackNoOp s
/-- Opcode byte 0xE6 (R160). -/
def execFallbackE6 (s : State) : Host.Outcome State Fault Refusal := fallbackNoOp s
/-- Opcode byte 0xE7 (R160). -/
def execFallbackE7 (s : State) : Host.Outcome State Fault Refusal := fallbackNoOp s
/-- Opcode byte 0xE8 (R160). -/
def execFallbackE8 (s : State) : Host.Outcome State Fault Refusal := fallbackNoOp s
/-- Opcode byte 0xE9 (R160). -/
def execFallbackE9 (s : State) : Host.Outcome State Fault Refusal := fallbackNoOp s
/-- Opcode byte 0xEB (R160). -/
def execFallbackEB (s : State) : Host.Outcome State Fault Refusal := fallbackNoOp s
/-- Opcode byte 0xEC (R160). -/
def execFallbackEC (s : State) : Host.Outcome State Fault Refusal := fallbackNoOp s
/-- Opcode byte 0xED (R160). -/
def execFallbackED (s : State) : Host.Outcome State Fault Refusal := fallbackNoOp s
/-- Opcode byte 0xEE (R160). -/
def execFallbackEE (s : State) : Host.Outcome State Fault Refusal := fallbackNoOp s
/-- Opcode byte 0xEF (R160). -/
def execFallbackEF (s : State) : Host.Outcome State Fault Refusal := fallbackNoOp s
/-- Opcode byte 0xF0 (R160). -/
def execFallbackF0 (s : State) : Host.Outcome State Fault Refusal := fallbackNoOp s
/-- Opcode byte 0xF1 (R160). -/
def execFallbackF1 (s : State) : Host.Outcome State Fault Refusal := fallbackNoOp s
/-- Opcode byte 0xF2 (R160). -/
def execFallbackF2 (s : State) : Host.Outcome State Fault Refusal := fallbackNoOp s
/-- Opcode byte 0xF3 (R160). -/
def execFallbackF3 (s : State) : Host.Outcome State Fault Refusal := fallbackNoOp s
/-- Opcode byte 0xF4 (R160). -/
def execFallbackF4 (s : State) : Host.Outcome State Fault Refusal := fallbackNoOp s
/-- Opcode byte 0xF5 (R160). -/
def execFallbackF5 (s : State) : Host.Outcome State Fault Refusal := fallbackNoOp s
/-- Opcode byte 0xF6 (R160). -/
def execFallbackF6 (s : State) : Host.Outcome State Fault Refusal := fallbackNoOp s
/-- Opcode byte 0xF7 (R160). -/
def execFallbackF7 (s : State) : Host.Outcome State Fault Refusal := fallbackNoOp s
/-- Opcode byte 0xF8 (R160). -/
def execFallbackF8 (s : State) : Host.Outcome State Fault Refusal := fallbackNoOp s
/-- Opcode byte 0xF9 (R160). -/
def execFallbackF9 (s : State) : Host.Outcome State Fault Refusal := fallbackNoOp s
/-- Opcode byte 0xFB (R160). -/
def execFallbackFB (s : State) : Host.Outcome State Fault Refusal := fallbackNoOp s
/-- Opcode byte 0xFC (R160). -/
def execFallbackFC (s : State) : Host.Outcome State Fault Refusal := fallbackNoOp s
/-- Opcode byte 0xFD (R160). -/
def execFallbackFD (s : State) : Host.Outcome State Fault Refusal := fallbackNoOp s
/-- Opcode byte 0xFE (R160). -/
def execFallbackFE (s : State) : Host.Outcome State Fault Refusal := fallbackNoOp s
/-- Opcode byte 0xFF (R160). -/
def execFallbackFF (s : State) : Host.Outcome State Fault Refusal := fallbackNoOp s

end Sys2Proof.Machine
end

