-- ==== Sys2Proof/Machine/Halt.lean ====
section
/-! DEFINITION. Halt (44_halt_and_fallback.md). -/

namespace Sys2Proof.Machine

/-- `HALT`: the PC ends after the opcode, and `HALTED <- 1` (44_halt_and_fallback.md R155). -/
def execHalt (s : State) : Host.Outcome State Fault Refusal := .next (s.advance 1).halt

end Sys2Proof.Machine
end

