-- ==== Sys2Proof/Machine/Loads.lean ====
section
/-! DEFINITION. Loads and stores (41_loads.md): seven immediate loads, one store and one load of the accumulator. -/

namespace Sys2Proof.Machine

/-- `LD B,d8` (41_loads.md R125, R126). -/
def execLdB (d8 : Byte) (s : State) : Host.Outcome State Fault Refusal :=
  .next (transfer 2 (.reg .b) (.imm8 d8) s)

/-- `LD C,d8` (41_loads.md R125, R127). -/
def execLdC (d8 : Byte) (s : State) : Host.Outcome State Fault Refusal :=
  .next (transfer 2 (.reg .c) (.imm8 d8) s)

/-- `LD D,d8` (41_loads.md R125, R128). -/
def execLdD (d8 : Byte) (s : State) : Host.Outcome State Fault Refusal :=
  .next (transfer 2 (.reg .d) (.imm8 d8) s)

/-- `LD E,d8` (41_loads.md R125, R129). -/
def execLdE (d8 : Byte) (s : State) : Host.Outcome State Fault Refusal :=
  .next (transfer 2 (.reg .e) (.imm8 d8) s)

/-- `LD H,d8` (41_loads.md R125, R130). -/
def execLdH (d8 : Byte) (s : State) : Host.Outcome State Fault Refusal :=
  .next (transfer 2 (.reg .h) (.imm8 d8) s)

/-- `LD L,d8` (41_loads.md R125, R131). -/
def execLdL (d8 : Byte) (s : State) : Host.Outcome State Fault Refusal :=
  .next (transfer 2 (.reg .l) (.imm8 d8) s)

/-- `LD A,d8` (41_loads.md R125, R132). -/
def execLdA (d8 : Byte) (s : State) : Host.Outcome State Fault Refusal :=
  .next (transfer 2 (.reg .a) (.imm8 d8) s)

/-- `LD (a16),A` (41_loads.md R133). -/
def execStoreA (a16 : Word) (s : State) : Host.Outcome State Fault Refusal :=
  .next (transfer 3 (.absolute a16) (.reg .a) s)

/-- `LD A,(a16)` (41_loads.md R134). -/
def execLoadA (a16 : Word) (s : State) : Host.Outcome State Fault Refusal :=
  .next (transfer 3 (.reg .a) (.absolute a16) s)

end Sys2Proof.Machine
end

