-- ==== Sys2Proof/Machine/Nop.lean ====
section
/-! DEFINITION. No-operation (40_nop.md). -/

namespace Sys2Proof.Machine

/-- `NOP`: "no effect, base cost" (40_nop.md R120). -/
def execNop (s : State) : Host.Outcome State Fault Refusal := .next (s.advance 1)

end Sys2Proof.Machine
end

