-- ==== Sys2Proof/Machine/Dispatch.lean ====
section
/-! DEFINITION. The dispatch of 30_encoding.md R101: one arm for each row of the opcode table, each a direct call of its meaning. -/

namespace Sys2Proof.Machine

def exec (i : Instr) (s : State) : Host.Outcome State Fault Refusal :=
  match i with
  | .nop => Sys2Proof.Machine.execNop s
  | .fallback01 => Sys2Proof.Machine.execFallback01 s
  | .fallback02 => Sys2Proof.Machine.execFallback02 s
  | .fallback03 => Sys2Proof.Machine.execFallback03 s
  | .fallback04 => Sys2Proof.Machine.execFallback04 s
  | .fallback05 => Sys2Proof.Machine.execFallback05 s
  | .ldB d8 => Sys2Proof.Machine.execLdB d8 s
  | .fallback07 => Sys2Proof.Machine.execFallback07 s
  | .fallback08 => Sys2Proof.Machine.execFallback08 s
  | .fallback09 => Sys2Proof.Machine.execFallback09 s
  | .fallback0A => Sys2Proof.Machine.execFallback0A s
  | .fallback0B => Sys2Proof.Machine.execFallback0B s
  | .fallback0C => Sys2Proof.Machine.execFallback0C s
  | .fallback0D => Sys2Proof.Machine.execFallback0D s
  | .ldC d8 => Sys2Proof.Machine.execLdC d8 s
  | .fallback0F => Sys2Proof.Machine.execFallback0F s
  | .fallback10 => Sys2Proof.Machine.execFallback10 s
  | .fallback11 => Sys2Proof.Machine.execFallback11 s
  | .fallback12 => Sys2Proof.Machine.execFallback12 s
  | .fallback13 => Sys2Proof.Machine.execFallback13 s
  | .fallback14 => Sys2Proof.Machine.execFallback14 s
  | .fallback15 => Sys2Proof.Machine.execFallback15 s
  | .ldD d8 => Sys2Proof.Machine.execLdD d8 s
  | .fallback17 => Sys2Proof.Machine.execFallback17 s
  | .fallback18 => Sys2Proof.Machine.execFallback18 s
  | .fallback19 => Sys2Proof.Machine.execFallback19 s
  | .fallback1A => Sys2Proof.Machine.execFallback1A s
  | .fallback1B => Sys2Proof.Machine.execFallback1B s
  | .fallback1C => Sys2Proof.Machine.execFallback1C s
  | .fallback1D => Sys2Proof.Machine.execFallback1D s
  | .ldE d8 => Sys2Proof.Machine.execLdE d8 s
  | .fallback1F => Sys2Proof.Machine.execFallback1F s
  | .fallback20 => Sys2Proof.Machine.execFallback20 s
  | .fallback21 => Sys2Proof.Machine.execFallback21 s
  | .fallback22 => Sys2Proof.Machine.execFallback22 s
  | .fallback23 => Sys2Proof.Machine.execFallback23 s
  | .fallback24 => Sys2Proof.Machine.execFallback24 s
  | .fallback25 => Sys2Proof.Machine.execFallback25 s
  | .ldH d8 => Sys2Proof.Machine.execLdH d8 s
  | .fallback27 => Sys2Proof.Machine.execFallback27 s
  | .fallback28 => Sys2Proof.Machine.execFallback28 s
  | .fallback29 => Sys2Proof.Machine.execFallback29 s
  | .fallback2A => Sys2Proof.Machine.execFallback2A s
  | .fallback2B => Sys2Proof.Machine.execFallback2B s
  | .fallback2C => Sys2Proof.Machine.execFallback2C s
  | .fallback2D => Sys2Proof.Machine.execFallback2D s
  | .ldL d8 => Sys2Proof.Machine.execLdL d8 s
  | .fallback2F => Sys2Proof.Machine.execFallback2F s
  | .fallback30 => Sys2Proof.Machine.execFallback30 s
  | .fallback31 => Sys2Proof.Machine.execFallback31 s
  | .fallback32 => Sys2Proof.Machine.execFallback32 s
  | .fallback33 => Sys2Proof.Machine.execFallback33 s
  | .fallback34 => Sys2Proof.Machine.execFallback34 s
  | .fallback35 => Sys2Proof.Machine.execFallback35 s
  | .fallback36 => Sys2Proof.Machine.execFallback36 s
  | .fallback37 => Sys2Proof.Machine.execFallback37 s
  | .fallback38 => Sys2Proof.Machine.execFallback38 s
  | .fallback39 => Sys2Proof.Machine.execFallback39 s
  | .fallback3A => Sys2Proof.Machine.execFallback3A s
  | .fallback3B => Sys2Proof.Machine.execFallback3B s
  | .fallback3C => Sys2Proof.Machine.execFallback3C s
  | .fallback3D => Sys2Proof.Machine.execFallback3D s
  | .ldA d8 => Sys2Proof.Machine.execLdA d8 s
  | .fallback3F => Sys2Proof.Machine.execFallback3F s
  | .fallback40 => Sys2Proof.Machine.execFallback40 s
  | .fallback41 => Sys2Proof.Machine.execFallback41 s
  | .fallback42 => Sys2Proof.Machine.execFallback42 s
  | .fallback43 => Sys2Proof.Machine.execFallback43 s
  | .fallback44 => Sys2Proof.Machine.execFallback44 s
  | .fallback45 => Sys2Proof.Machine.execFallback45 s
  | .fallback46 => Sys2Proof.Machine.execFallback46 s
  | .fallback47 => Sys2Proof.Machine.execFallback47 s
  | .fallback48 => Sys2Proof.Machine.execFallback48 s
  | .fallback49 => Sys2Proof.Machine.execFallback49 s
  | .fallback4A => Sys2Proof.Machine.execFallback4A s
  | .fallback4B => Sys2Proof.Machine.execFallback4B s
  | .fallback4C => Sys2Proof.Machine.execFallback4C s
  | .fallback4D => Sys2Proof.Machine.execFallback4D s
  | .fallback4E => Sys2Proof.Machine.execFallback4E s
  | .fallback4F => Sys2Proof.Machine.execFallback4F s
  | .fallback50 => Sys2Proof.Machine.execFallback50 s
  | .fallback51 => Sys2Proof.Machine.execFallback51 s
  | .fallback52 => Sys2Proof.Machine.execFallback52 s
  | .fallback53 => Sys2Proof.Machine.execFallback53 s
  | .fallback54 => Sys2Proof.Machine.execFallback54 s
  | .fallback55 => Sys2Proof.Machine.execFallback55 s
  | .fallback56 => Sys2Proof.Machine.execFallback56 s
  | .fallback57 => Sys2Proof.Machine.execFallback57 s
  | .fallback58 => Sys2Proof.Machine.execFallback58 s
  | .fallback59 => Sys2Proof.Machine.execFallback59 s
  | .fallback5A => Sys2Proof.Machine.execFallback5A s
  | .fallback5B => Sys2Proof.Machine.execFallback5B s
  | .fallback5C => Sys2Proof.Machine.execFallback5C s
  | .fallback5D => Sys2Proof.Machine.execFallback5D s
  | .fallback5E => Sys2Proof.Machine.execFallback5E s
  | .fallback5F => Sys2Proof.Machine.execFallback5F s
  | .fallback60 => Sys2Proof.Machine.execFallback60 s
  | .fallback61 => Sys2Proof.Machine.execFallback61 s
  | .fallback62 => Sys2Proof.Machine.execFallback62 s
  | .fallback63 => Sys2Proof.Machine.execFallback63 s
  | .fallback64 => Sys2Proof.Machine.execFallback64 s
  | .fallback65 => Sys2Proof.Machine.execFallback65 s
  | .fallback66 => Sys2Proof.Machine.execFallback66 s
  | .fallback67 => Sys2Proof.Machine.execFallback67 s
  | .fallback68 => Sys2Proof.Machine.execFallback68 s
  | .fallback69 => Sys2Proof.Machine.execFallback69 s
  | .fallback6A => Sys2Proof.Machine.execFallback6A s
  | .fallback6B => Sys2Proof.Machine.execFallback6B s
  | .fallback6C => Sys2Proof.Machine.execFallback6C s
  | .fallback6D => Sys2Proof.Machine.execFallback6D s
  | .fallback6E => Sys2Proof.Machine.execFallback6E s
  | .fallback6F => Sys2Proof.Machine.execFallback6F s
  | .fallback70 => Sys2Proof.Machine.execFallback70 s
  | .fallback71 => Sys2Proof.Machine.execFallback71 s
  | .fallback72 => Sys2Proof.Machine.execFallback72 s
  | .fallback73 => Sys2Proof.Machine.execFallback73 s
  | .fallback74 => Sys2Proof.Machine.execFallback74 s
  | .fallback75 => Sys2Proof.Machine.execFallback75 s
  | .halt => Sys2Proof.Machine.execHalt s
  | .fallback77 => Sys2Proof.Machine.execFallback77 s
  | .fallback78 => Sys2Proof.Machine.execFallback78 s
  | .fallback79 => Sys2Proof.Machine.execFallback79 s
  | .fallback7A => Sys2Proof.Machine.execFallback7A s
  | .fallback7B => Sys2Proof.Machine.execFallback7B s
  | .fallback7C => Sys2Proof.Machine.execFallback7C s
  | .fallback7D => Sys2Proof.Machine.execFallback7D s
  | .fallback7E => Sys2Proof.Machine.execFallback7E s
  | .fallback7F => Sys2Proof.Machine.execFallback7F s
  | .fallback80 => Sys2Proof.Machine.execFallback80 s
  | .fallback81 => Sys2Proof.Machine.execFallback81 s
  | .fallback82 => Sys2Proof.Machine.execFallback82 s
  | .fallback83 => Sys2Proof.Machine.execFallback83 s
  | .fallback84 => Sys2Proof.Machine.execFallback84 s
  | .fallback85 => Sys2Proof.Machine.execFallback85 s
  | .fallback86 => Sys2Proof.Machine.execFallback86 s
  | .fallback87 => Sys2Proof.Machine.execFallback87 s
  | .fallback88 => Sys2Proof.Machine.execFallback88 s
  | .fallback89 => Sys2Proof.Machine.execFallback89 s
  | .fallback8A => Sys2Proof.Machine.execFallback8A s
  | .fallback8B => Sys2Proof.Machine.execFallback8B s
  | .fallback8C => Sys2Proof.Machine.execFallback8C s
  | .fallback8D => Sys2Proof.Machine.execFallback8D s
  | .fallback8E => Sys2Proof.Machine.execFallback8E s
  | .fallback8F => Sys2Proof.Machine.execFallback8F s
  | .fallback90 => Sys2Proof.Machine.execFallback90 s
  | .fallback91 => Sys2Proof.Machine.execFallback91 s
  | .fallback92 => Sys2Proof.Machine.execFallback92 s
  | .fallback93 => Sys2Proof.Machine.execFallback93 s
  | .fallback94 => Sys2Proof.Machine.execFallback94 s
  | .fallback95 => Sys2Proof.Machine.execFallback95 s
  | .fallback96 => Sys2Proof.Machine.execFallback96 s
  | .fallback97 => Sys2Proof.Machine.execFallback97 s
  | .fallback98 => Sys2Proof.Machine.execFallback98 s
  | .fallback99 => Sys2Proof.Machine.execFallback99 s
  | .fallback9A => Sys2Proof.Machine.execFallback9A s
  | .fallback9B => Sys2Proof.Machine.execFallback9B s
  | .fallback9C => Sys2Proof.Machine.execFallback9C s
  | .fallback9D => Sys2Proof.Machine.execFallback9D s
  | .fallback9E => Sys2Proof.Machine.execFallback9E s
  | .fallback9F => Sys2Proof.Machine.execFallback9F s
  | .fallbackA0 => Sys2Proof.Machine.execFallbackA0 s
  | .fallbackA1 => Sys2Proof.Machine.execFallbackA1 s
  | .fallbackA2 => Sys2Proof.Machine.execFallbackA2 s
  | .fallbackA3 => Sys2Proof.Machine.execFallbackA3 s
  | .fallbackA4 => Sys2Proof.Machine.execFallbackA4 s
  | .fallbackA5 => Sys2Proof.Machine.execFallbackA5 s
  | .fallbackA6 => Sys2Proof.Machine.execFallbackA6 s
  | .fallbackA7 => Sys2Proof.Machine.execFallbackA7 s
  | .fallbackA8 => Sys2Proof.Machine.execFallbackA8 s
  | .fallbackA9 => Sys2Proof.Machine.execFallbackA9 s
  | .fallbackAA => Sys2Proof.Machine.execFallbackAA s
  | .fallbackAB => Sys2Proof.Machine.execFallbackAB s
  | .fallbackAC => Sys2Proof.Machine.execFallbackAC s
  | .fallbackAD => Sys2Proof.Machine.execFallbackAD s
  | .fallbackAE => Sys2Proof.Machine.execFallbackAE s
  | .xorA => Sys2Proof.Machine.execXorA s
  | .fallbackB0 => Sys2Proof.Machine.execFallbackB0 s
  | .fallbackB1 => Sys2Proof.Machine.execFallbackB1 s
  | .fallbackB2 => Sys2Proof.Machine.execFallbackB2 s
  | .fallbackB3 => Sys2Proof.Machine.execFallbackB3 s
  | .fallbackB4 => Sys2Proof.Machine.execFallbackB4 s
  | .fallbackB5 => Sys2Proof.Machine.execFallbackB5 s
  | .fallbackB6 => Sys2Proof.Machine.execFallbackB6 s
  | .fallbackB7 => Sys2Proof.Machine.execFallbackB7 s
  | .fallbackB8 => Sys2Proof.Machine.execFallbackB8 s
  | .fallbackB9 => Sys2Proof.Machine.execFallbackB9 s
  | .fallbackBA => Sys2Proof.Machine.execFallbackBA s
  | .fallbackBB => Sys2Proof.Machine.execFallbackBB s
  | .fallbackBC => Sys2Proof.Machine.execFallbackBC s
  | .fallbackBD => Sys2Proof.Machine.execFallbackBD s
  | .fallbackBE => Sys2Proof.Machine.execFallbackBE s
  | .fallbackBF => Sys2Proof.Machine.execFallbackBF s
  | .fallbackC0 => Sys2Proof.Machine.execFallbackC0 s
  | .fallbackC1 => Sys2Proof.Machine.execFallbackC1 s
  | .fallbackC2 => Sys2Proof.Machine.execFallbackC2 s
  | .jp a16 => Sys2Proof.Machine.execJp a16 s
  | .fallbackC4 => Sys2Proof.Machine.execFallbackC4 s
  | .fallbackC5 => Sys2Proof.Machine.execFallbackC5 s
  | .fallbackC6 => Sys2Proof.Machine.execFallbackC6 s
  | .fallbackC7 => Sys2Proof.Machine.execFallbackC7 s
  | .fallbackC8 => Sys2Proof.Machine.execFallbackC8 s
  | .ret => Sys2Proof.Machine.execRet s
  | .fallbackCA => Sys2Proof.Machine.execFallbackCA s
  | .fallbackCB => Sys2Proof.Machine.execFallbackCB s
  | .fallbackCC => Sys2Proof.Machine.execFallbackCC s
  | .call a16 => Sys2Proof.Machine.execCall a16 s
  | .fallbackCE => Sys2Proof.Machine.execFallbackCE s
  | .fallbackCF => Sys2Proof.Machine.execFallbackCF s
  | .fallbackD0 => Sys2Proof.Machine.execFallbackD0 s
  | .fallbackD1 => Sys2Proof.Machine.execFallbackD1 s
  | .fallbackD2 => Sys2Proof.Machine.execFallbackD2 s
  | .fallbackD3 => Sys2Proof.Machine.execFallbackD3 s
  | .fallbackD4 => Sys2Proof.Machine.execFallbackD4 s
  | .fallbackD5 => Sys2Proof.Machine.execFallbackD5 s
  | .fallbackD6 => Sys2Proof.Machine.execFallbackD6 s
  | .fallbackD7 => Sys2Proof.Machine.execFallbackD7 s
  | .fallbackD8 => Sys2Proof.Machine.execFallbackD8 s
  | .fallbackD9 => Sys2Proof.Machine.execFallbackD9 s
  | .fallbackDA => Sys2Proof.Machine.execFallbackDA s
  | .fallbackDB => Sys2Proof.Machine.execFallbackDB s
  | .fallbackDC => Sys2Proof.Machine.execFallbackDC s
  | .fallbackDD => Sys2Proof.Machine.execFallbackDD s
  | .fallbackDE => Sys2Proof.Machine.execFallbackDE s
  | .fallbackDF => Sys2Proof.Machine.execFallbackDF s
  | .fallbackE0 => Sys2Proof.Machine.execFallbackE0 s
  | .fallbackE1 => Sys2Proof.Machine.execFallbackE1 s
  | .fallbackE2 => Sys2Proof.Machine.execFallbackE2 s
  | .fallbackE3 => Sys2Proof.Machine.execFallbackE3 s
  | .fallbackE4 => Sys2Proof.Machine.execFallbackE4 s
  | .fallbackE5 => Sys2Proof.Machine.execFallbackE5 s
  | .fallbackE6 => Sys2Proof.Machine.execFallbackE6 s
  | .fallbackE7 => Sys2Proof.Machine.execFallbackE7 s
  | .fallbackE8 => Sys2Proof.Machine.execFallbackE8 s
  | .fallbackE9 => Sys2Proof.Machine.execFallbackE9 s
  | .storeA a16 => Sys2Proof.Machine.execStoreA a16 s
  | .fallbackEB => Sys2Proof.Machine.execFallbackEB s
  | .fallbackEC => Sys2Proof.Machine.execFallbackEC s
  | .fallbackED => Sys2Proof.Machine.execFallbackED s
  | .fallbackEE => Sys2Proof.Machine.execFallbackEE s
  | .fallbackEF => Sys2Proof.Machine.execFallbackEF s
  | .fallbackF0 => Sys2Proof.Machine.execFallbackF0 s
  | .fallbackF1 => Sys2Proof.Machine.execFallbackF1 s
  | .fallbackF2 => Sys2Proof.Machine.execFallbackF2 s
  | .fallbackF3 => Sys2Proof.Machine.execFallbackF3 s
  | .fallbackF4 => Sys2Proof.Machine.execFallbackF4 s
  | .fallbackF5 => Sys2Proof.Machine.execFallbackF5 s
  | .fallbackF6 => Sys2Proof.Machine.execFallbackF6 s
  | .fallbackF7 => Sys2Proof.Machine.execFallbackF7 s
  | .fallbackF8 => Sys2Proof.Machine.execFallbackF8 s
  | .fallbackF9 => Sys2Proof.Machine.execFallbackF9 s
  | .loadA a16 => Sys2Proof.Machine.execLoadA a16 s
  | .fallbackFB => Sys2Proof.Machine.execFallbackFB s
  | .fallbackFC => Sys2Proof.Machine.execFallbackFC s
  | .fallbackFD => Sys2Proof.Machine.execFallbackFD s
  | .fallbackFE => Sys2Proof.Machine.execFallbackFE s
  | .fallbackFF => Sys2Proof.Machine.execFallbackFF s

end Sys2Proof.Machine
end

