-- ==== Sys2Proof/Machine/Timing.lean ====
section
/-! DEFINITION. Cycle costs (70_reset_and_hazards.md R290; the numbers are the spec's decisions D3 and D4, log 2). -/

namespace Sys2Proof.Machine

/-- `CYC[op]`: the cost of the instruction with opcode byte `op` (70_reset_and_hazards.md R290). -/
def cyc (op : Byte) : Cycles :=
  match op.toNat with
  | 0x06 => 8
  | 0x0E => 8
  | 0x16 => 8
  | 0x1E => 8
  | 0x26 => 8
  | 0x2E => 8
  | 0x3E => 8
  | 0xEA => 16
  | 0xFA => 16
  | 0xC3 => 16
  | 0xCD => 24
  | 0xC9 => 16
  | _ => 4

/-- `HALT_IDLE`: the cost of a step while halted (44_halt_and_fallback.md R156). -/
def haltIdle : Cycles := 4

end Sys2Proof.Machine
end

