-- ==== Sys2Proof/Machine/CpuCore.lean ====
section
/-! DEFINITION. `Cpu.step` (30_encoding.md R101; 44_halt_and_fallback.md R156). -/

namespace Sys2Proof.Machine

/-- The cost that `Cpu.step` returns: that of the opcode at the PC, or the idle cost while halted (30_encoding.md R101). -/
def State.cpuCost (s : State) : Cycles := if s.cpu.halted then haltIdle else cyc s.fetch.opcode

/-- `Cpu.step()`: nothing while halted, else the instruction at the PC; `TCOUNT` grows by the cost (30_encoding.md R101;
44_halt_and_fallback.md R156). The answer of the transaction is `cpuCost` of the state before. -/
def State.cpuStep (s : State) : Host.Outcome State Fault Refusal :=
  if s.cpu.halted then .next (s.charge s.cpuCost)
  else
    match exec s.fetch s with
    | .next t => .next (t.charge s.cpuCost)
    | .fault r => .fault r
    | .refused r => .refused r

end Sys2Proof.Machine
end

