-- ==== Sys2Proof/Machine/InputLatch.lean ====
section
/-! DEFINITION. The InputLatch (51_input_latch.md): the buttons and the input register. -/

namespace Sys2Proof.Machine

/-- `BTN[name]` (10_state.md R34). -/
def Buttons.get (b : Buttons) : Button → Bool
  | .right => b.right
  | .left => b.left
  | .up => b.up
  | .down => b.down
  | .a => b.a
  | .b => b.b
  | .select => b.select
  | .start => b.start

/-- `BTN[name] <- p` (51_input_latch.md R202). -/
def Buttons.set (b : Buttons) : Button → Bool → Buttons
  | .right, p => { b with right := p }
  | .left, p => { b with left := p }
  | .up, p => { b with up := p }
  | .down, p => { b with down := p }
  | .a, p => { b with a := p }
  | .b, p => { b with b := p }
  | .select, p => { b with select := p }
  | .start, p => { b with start := p }

/-- The bit of IF that a joypad event sets: bit 4 (51_input_latch.md R202; decision D7, log 4). -/
def ifJoypadMask : Byte := 0x10

/-- `Joy.set_button(name, p)` (51_input_latch.md R202): the button changes, and the joypad bit of IF is raised, whatever the button held.
JOYP is not touched (log 19). -/
def State.setButton (s : State) (name : Button) (p : Bool) : State :=
  { s.raiseIf ifJoypadMask with buttons := s.buttons.set name p }

/-- Four lines, active low: line k is 0 if button k is pressed (51_input_latch.md R203). -/
def activeLow (b0 b1 b2 b3 : Bool) : Byte :=
  ~~~((if b0 then 0x01 else 0x00) ||| (if b1 then 0x02 else 0x00) ||| (if b2 then 0x04 else 0x00) ||| (if b3 then 0x08 else 0x00))
    &&& 0x0F

/-- `dir_nib` (51_input_latch.md R201, R203; lines: log 6). -/
def Buttons.dirNib (b : Buttons) : Byte := activeLow b.right b.left b.up b.down

/-- `act_nib` (51_input_latch.md R201, R203; lines: log 6). -/
def Buttons.actNib (b : Buttons) : Byte := activeLow b.a b.b b.select b.start

/-- The input register after an update that found `reg` in it (51_input_latch.md R204): bits 7 and 6 are 1, bits 5 and 4 are kept, bits 3
to 0 are the lines of the selected groups, AND-ed where both are (R205), 0xF where none is (R206). -/
def joypAfter (b : Buttons) (reg : Byte) : Byte :=
  let nib : Byte := 0x0F
  let nib := if reg.getLsbD 4 then nib else nib &&& b.dirNib
  let nib := if reg.getLsbD 5 then nib else nib &&& b.actNib
  0xC0 ||| (reg &&& 0x30) ||| nib

/-- `Joy.update()` (51_input_latch.md R204). -/
def State.joyUpdate (s : State) : State := s.busWrite joypAddr (joypAfter s.buttons (s.busRead joypAddr))

end Sys2Proof.Machine
end

