-- ==== Sys2Proof/Machine/VideoUnit.lean ====
section
/-! DEFINITION. The VideoUnit (50_video_unit.md): scanline generator and tile/map renderer. Bit numbers, base addresses and the layout of
maps and tiles are the spec's decision D8 (log 5). -/

namespace Sys2Proof.Machine

/-! ### The framebuffer -/

/-- The colour indices of row `y`, if it has been rendered since reset. -/
def FrameBuffer.row : FrameBuffer → Nat → Option (List Colour)
  | [], _ => none
  | (y', r) :: t, y => if y = y' then some r else FrameBuffer.row t y

/-- Put a rendered row in its place, keeping the rows in rising order. -/
def FrameBuffer.setRow : FrameBuffer → Nat → List Colour → FrameBuffer
  | [], y, r => [(y, r)]
  | (y', r') :: t, y, r =>
    if y < y' then (y, r) :: (y', r') :: t
    else if y = y' then (y, r) :: t
    else (y', r') :: FrameBuffer.setRow t y r

/-- The rows rise strictly from `lo`, are rows of the display, and have 160 pixels each. -/
def FrameBuffer.risingFrom : Nat → FrameBuffer → Bool
  | _, [] => true
  | lo, (y, r) :: t =>
    decide (lo ≤ y) && decide (y < Config.vblankLine) && decide (r.length = Config.fbWidth) && FrameBuffer.risingFrom (y + 1) t

/-- The canonical form of the framebuffer. -/
def FrameBuffer.wf (fb : FrameBuffer) : Bool := FrameBuffer.risingFrom 0 fb

/-- Component `k` of a colour: 0 R, 1 G, 2 B, 3 A (50_video_unit.md R187). -/
def Rgba.component (c : Rgba) (k : Nat) : Byte :=
  match k with
  | 0 => c.r
  | 1 => c.g
  | 2 => c.b
  | _ => c.a

/-- Byte `i` of `FB` (10_state.md R33): the pixel in column `x` of row `y` has bytes `4*(160*y + x)` to `+3`. A row not rendered since
reset holds `FB_INIT` (log 9); a rendered pixel holds `PALETTE` of its colour index (50_video_unit.md R187; log 8). -/
def FrameBuffer.byteAt (fb : FrameBuffer) (i : Nat) : Byte :=
  let pixel := i / 4
  match FrameBuffer.row fb (pixel / Config.fbWidth) with
  | none => Config.fbInit i
  | some r => Rgba.component (Config.palette (r.getD (pixel % Config.fbWidth) 0)) (i % 4)

/-- A copy of the framebuffer: its 92,160 bytes (52_machine_loop.md R218). -/
def FrameBuffer.copy (fb : FrameBuffer) : List Byte := (List.range Config.fbBytes).map fun i => FrameBuffer.byteAt fb i

/-- The state with another VideoUnit state. -/
def State.setVideo (s : State) (v : Video) : State := { s with video := v }

/-! ### Rendering one scanline -/

/-- LCDC bit 7: the LCD is on (10_state.md R43; 50_video_unit.md R180). -/
def State.lcdEnabled (s : State) : Bool := (s.busRead lcdcAddr).getLsbD 7

/-- The base address of the selected background map: LCDC bit 3 (50_video_unit.md R183). -/
def mapBase (lcdc : Byte) : Word := if lcdc.getLsbD 3 then 0x9C00 else 0x9800

/-- The address of a tile's data: LCDC bit 4 set, index unsigned from 0x8000; clear, index signed from 0x9000 (50_video_unit.md R184). -/
def tileAddr (lcdc idx : Byte) : Word :=
  if lcdc.getLsbD 4 then 0x8000 + 16 * idx.zeroExtend 16 else 0x9000 + 16 * idx.signExtend 16

/-- A bit of a byte as a number. -/
def bitNat (v : Byte) (b : Nat) : Nat := (v.getLsbD b).toNat

/-- The colour index of the background at plane coordinates `bx`, `by'`, both 0 to 255 (50_video_unit.md R183 to R185). -/
def State.backgroundColour (s : State) (lcdc : Byte) (bx by' : Nat) : Colour :=
  let idx := s.busRead (mapBase lcdc + BitVec.ofNat 16 (32 * (by' / 8) + bx / 8))
  let rowAddr := tileAddr lcdc idx + BitVec.ofNat 16 (2 * (by' % 8))
  let lo := s.busRead rowAddr
  let hi := s.busRead (rowAddr + 1)
  let b := 7 - bx % 8
  BitVec.ofNat 2 (2 * bitNat hi b + bitNat lo b)

/-- The colour index of column `x` of line `y`: the scrolled coordinates wrap at 256 (50_video_unit.md R181, R182). -/
def State.pixelColour (s : State) (y x : Nat) : Colour :=
  s.backgroundColour (s.busRead lcdcAddr) (((s.busRead scxAddr).toNat + x) % 256) (((s.busRead scyAddr).toNat + y) % 256)

/-- The 160 colour indices of line `y`, left to right (50_video_unit.md R182). -/
def State.renderedRow (s : State) (y : Nat) : List Colour := (List.range Config.fbWidth).map fun x => s.pixelColour y x

/-- `render_scanline()`: with the LCD off the scanline is left untouched; else all of row `LINE` is written, and no other row
(50_video_unit.md R180, R187). -/
def State.renderScanline (s : State) : State :=
  if s.lcdEnabled then
    s.setVideo { s.video with fb := FrameBuffer.setRow s.video.fb s.video.line (s.renderedRow s.video.line) }
  else s

/-! ### The step -/

/-- The bit of IF that line 144 sets: bit 0 (50_video_unit.md R176; decision D7, log 4). -/
def ifVblankMask : Byte := 0x01

/-- The first part of a scanline advance: `ACC` loses 456, `LINE` goes up by one modulo 154, and LY mirrors it
(50_video_unit.md R172, R174). -/
def State.nextLine (s : State) : State :=
  let line := (s.video.line + 1) % Config.linesPerFrame
  (s.setVideo { s.video with acc := s.video.acc - Config.scanlineCycles, line := line }).busWrite lyAddr (BitVec.ofNat 8 line)

/-- One scanline boundary (50_video_unit.md R172): the advance, then the rendering of a visible line, or the vertical blank of line 144, or
nothing; with the bit that says the new line is 144. -/
def State.crossLine (s : State) : State × Bool :=
  let t := s.nextLine
  if t.video.line < Config.vblankLine then (t.renderScanline, false)
  else if t.video.line = Config.vblankLine then (t.raiseIf ifVblankMask, true)
  else (t, false)

/-- The loop of 50_video_unit.md R172: at most `n` boundaries are crossed, in order (R173), while `ACC` holds a scanline's cycles. -/
def State.vidLoop : Nat → State → Bool → State × Bool
  | 0, s, fc => (s, fc)
  | n + 1, s, fc =>
    if Config.scanlineCycles ≤ s.video.acc then State.vidLoop n s.crossLine.1 (fc || s.crossLine.2) else (s, fc)

/-- `ACC <- ACC + c`, in the natural numbers (50_video_unit.md R172; log 22). -/
def State.addCycles (s : State) (c : Nat) : State := s.setVideo { s.video with acc := s.video.acc + c }

/-- `Vid.step(c)` (50_video_unit.md R172, R173, R178): the state after, and whether line 144 was entered. `ACC` div 456 boundaries are
enough for the loop to end by its own test (`vidStep_acc_lt`). -/
def State.vidStep (s : State) (c : Cycles) : State × Bool :=
  let t := s.addCycles c.toNat
  State.vidLoop (t.video.acc / Config.scanlineCycles) t false

end Sys2Proof.Machine
end

