-- ==== Sys2Proof/Machine/Sequencer.lean ====
section
/-! DEFINITION. The MachineLoop (52_machine_loop.md): the machine step, the frame, and the host's calls. -/

namespace Sys2Proof.Machine

/-- What one machine step leaves: the state, the cost `c` it returns, and the frame-complete bit `fc` of its `Vid.step`
(52_machine_loop.md R217, R219). -/
structure MachineStep where
  state : State
  cycles : Cycles
  frameComplete : Bool
deriving DecidableEq, Repr

/-- `machine_step()` (52_machine_loop.md R217): `Cpu.step`, then `Joy.update`, then `Vid.step` with the cost. -/
def State.machineStep (s : State) : Host.Outcome MachineStep Fault Refusal :=
  match s.cpuStep with
  | .next t => .next ⟨(t.joyUpdate.vidStep s.cpuCost).1, s.cpuCost, (t.joyUpdate.vidStep s.cpuCost).2⟩
  | .fault r => .fault r
  | .refused r => .refused r

/-- `FRAME_CYC` after a machine step of cost `c` (52_machine_loop.md R216). It starts at 0 when a call begins, and is gone (`none`) when
the call returns, which is when it reaches 70,224; the overshoot is not carried over (log 13). -/
def nextFrameCyc (fc : Option Nat) (c : Cycles) : Option Nat :=
  if fc.getD 0 + c.toNat < Config.frameCycles then some (fc.getD 0 + c.toNat) else none

/-- One iteration of the loop of `Seq.step_frame` (52_machine_loop.md R216); where no call is in progress it is the first iteration of a
new one (log 13). -/
def State.frameIteration (s : State) : Host.Outcome State Fault Refusal :=
  match s.machineStep with
  | .next m => .next { m.state with frameCyc := nextFrameCyc s.frameCyc m.cycles }
  | .fault r => .fault r
  | .refused r => .refused r

/-- Iterations until the call returns, at most `n`. -/
def State.frameLoop : Nat → State → Host.Outcome State Fault Refusal
  | 0, s => .next s
  | n + 1, s =>
    match s.frameIteration with
    | .next t =>
      match t.frameCyc with
      | none => .next t
      | some _ => State.frameLoop n t
    | .fault r => .fault r
    | .refused r => .refused r

/-- The most machine steps one `Seq.step_frame` call performs: each adds at least 4 cycles (52_machine_loop.md R216). -/
def maxFrameSteps : Nat := 17556

/-- What the host gets back from a call: the machine, and for `Seq.step_frame` the copy of the framebuffer. -/
structure HostReply where
  state : State
  frame : Option (List Byte)
deriving DecidableEq, Repr

/-- `Seq.step_frame()` (52_machine_loop.md R216, R218): the framebuffer is copied as it is when the loop ends. -/
def State.stepFrame (s : State) : Host.Outcome HostReply Fault Refusal :=
  match State.frameLoop maxFrameSteps s with
  | .next t => .next ⟨t, some (FrameBuffer.copy t.video.fb)⟩
  | .fault r => .fault r
  | .refused r => .refused r

/-- `Seq.load_program(img)` (52_machine_loop.md R222): the cartridge region rewritten, CpuCore, VideoUnit and InputLatch reset, everything
else kept (70_reset_and_hazards.md R272 to R274; log 11). -/
def State.loadProgram (s : State) (img : List Byte) : State :=
  { s.busLoadProgram img with cpu := Cpu.reset, video := Video.reset, buttons := Buttons.reset }

/-- The host's calls (00_scope.md R6; 52_machine_loop.md R225). -/
inductive HostCall where
  | loadProgram (img : List Byte)
  | setButton (name : Button) (p : Bool)
  | stepFrame
deriving DecidableEq, Repr

/-- A call of the host, allowed only between frames (52_machine_loop.md R224, R225; 93_implementation_defined.md U10; log 20). -/
def hostCall (call : HostCall) (s : State) : Host.Outcome HostReply Fault Refusal :=
  if s.frameCyc.isSome then .refused .hostCallDuringFrame
  else
    match call with
    | .loadProgram img => .next ⟨s.loadProgram img, none⟩
    | .setButton name p => .next ⟨s.setButton name p, none⟩
    | .stepFrame => s.stepFrame

/-- An instruction of up to three bytes put where the next step fetches: at the PC, with the CPU running (log 21). -/
def State.placeInstr (s : State) (bytes : List Byte) : State :=
  { s.storeBytes s.cpu.pc bytes with cpu := { s.cpu with halted := false } }

end Sys2Proof.Machine
end

