-- ==== Sys2Proof/Machine/Step.lean ====
section
/-! DEFINITION. The step of the machine: one iteration of the loop of 52_machine_loop.md R216. -/

namespace Sys2Proof.Machine

/-- One machine step inside a `Seq.step_frame` call of the host (52_machine_loop.md R216, R217). -/
def step (s : State) : Host.Outcome State Fault Refusal := s.frameIteration

/-- The state with an instruction, numbered as the opcode table numbers its bits, where `step` fetches next. -/
def State.withFetchWord (s : State) (nbits w : Nat) : State := s.placeInstr (tableBytes nbits w)

end Sys2Proof.Machine
end

