-- ==== Sys2Proof/Safety.lean ====
section
/-! DEFINITION. The terms in which claims about runs are made: the invariants of the machine (10_state.md R27, R32; 50_video_unit.md
R171), the end of a run (52_machine_loop.md R226), the bytes that the other sub-blocks rewrite, and runs that use only the defined opcodes
(93_implementation_defined.md U1). The hardware has no error state (60_exceptions.md R240), so a run is safe when these hold. -/

namespace Sys2Proof.Machine

/-- What holds of every state between transactions: storage and framebuffer in canonical form, the low nibble of F zero (10_state.md R27),
`ACC` and `LINE` in range (10_state.md R32), and a frame in progress short of its budget (52_machine_loop.md R216). -/
structure State.Inv (s : State) : Prop where
  memWf : s.mem.wf = true
  flagsLow : s.cpu.f &&& 0x0F = 0
  accLt : s.video.acc < Config.scanlineCycles
  lineLt : s.video.line < Config.linesPerFrame
  fbWf : FrameBuffer.wf s.video.fb = true
  frameLt : ∀ n, s.frameCyc = some n → n < Config.frameCycles

/-- `ACC` and `LINE` are the function of the total cycle count that 50_video_unit.md R171 gives. -/
structure State.OnTime (s : State) : Prop where
  acc : s.video.acc = s.cpu.tcount % Config.scanlineCycles
  line : s.video.line = s.cpu.tcount / Config.scanlineCycles % Config.linesPerFrame

/-- The end of a run: the CPU is halted (52_machine_loop.md R226). -/
def State.endOfRun (s : State) : Bool := s.cpu.halted

/-- No `Seq.step_frame` call is in progress: the host may act (52_machine_loop.md R224). -/
def State.betweenFrames (s : State) : Bool := s.frameCyc.isNone

/-- An address of one of the three bytes that the InputLatch and the VideoUnit write: JOYP, IF, LY (20_memory.md R78; 52_machine_loop.md
R226). No other address reaches them (20_memory.md R62). -/
def isSharedByte (a : Word) : Bool := a == joypAddr || a == ifAddr || a == lyAddr

/-- The next `n` machine steps execute no fallback opcode (93_implementation_defined.md U1). -/
def State.usesOnlyDefined : Nat → State → Bool
  | 0, _ => true
  | n + 1, s =>
    (s.cpu.halted || !s.fetch.isFallback) &&
      match step s with
      | .next t => State.usesOnlyDefined n t
      | .fault _ => true
      | .refused _ => true

end Sys2Proof.Machine
end

