-- ==== Sys2Proof/Certificates/Slice0/Obligations.lean ====
section
/-! DEFINITION. The statements for the provers, in the order of OBLIGATIONS.json. Each is about every state, not about runs from reset. A
premise `s.mem.wf` asks for storage in canonical form; `StepKeepsInvariant`, `HostCallKeepsInvariant` and `ResetMeetsInvariants` say that
every run has it. -/

open Sys2Proof Sys2Proof.Machine

/-! ### Reset and program load -/

/-- The machine after construction (10_state.md R50, column "After construction"). Of these values the spec's source fixes the ten CPU
registers; storage (D10, log 7), `ACC` and `LINE` (D13, log 10), the halves of the pairs (D6, log 3), the buttons (D9, log 6), `TCOUNT`
(D25, log 17) and the form of `FRAME_CYC` (log 13) are the spec's decisions or the model's. -/
def Obligations.ResetValues : Prop :=
  State.reset.regs = ⟨0x01, 0xB0, 0x00, 0x13, 0x00, 0xD8, 0x01, 0x4D, 0xFFFE, 0x0100⟩ ∧
  State.reset.cpu.bc = 0x0013 ∧ State.reset.cpu.de = 0x00D8 ∧ State.reset.cpu.hl = 0x014D ∧
  State.reset.cpu.halted = false ∧ State.reset.cpu.tcount = 0 ∧
  (∀ r i, State.reset.regionByte r i = 0x00) ∧
  State.reset.video.acc = 0 ∧ State.reset.video.line = 0 ∧
  (∀ i, FrameBuffer.byteAt State.reset.video.fb i = Config.fbInit i) ∧
  (∀ n, State.reset.buttons.get n = false) ∧ State.reset.frameCyc = none

/-- `Seq.load_program` from any state (52_machine_loop.md R222; 70_reset_and_hazards.md R272 to R274): the register file is the power-on
one, the CPU runs, VideoUnit and InputLatch are reset, the cartridge region is the image, every other byte of storage (LY, JOYP and IF
among them) is kept. Of this, what is kept is the spec's decision D14 (log 11), `ACC = 0` and `LINE = 0` are D13 (log 10), the released
buttons D9 (log 6), `TCOUNT = 0` is D25 (log 17), and the halves of the pairs are D6 (log 3). -/
def Obligations.LoadProgramResetsMachine : Prop :=
  ∀ (s : State) (img : List Byte),
    (s.loadProgram img).regs = State.reset.regs ∧ (s.loadProgram img).cpu.halted = false ∧ (s.loadProgram img).cpu.tcount = 0 ∧
    (s.loadProgram img).video.acc = 0 ∧ (s.loadProgram img).video.line = 0 ∧
    (∀ i, FrameBuffer.byteAt (s.loadProgram img).video.fb i = Config.fbInit i) ∧
    (∀ n, (s.loadProgram img).buttons.get n = false) ∧
    (∀ a : Word, (s.loadProgram img).busRead a = if a.toNat < 0x8000 then img.getD a.toNat 0x00 else s.busRead a)

/-! ### The bus -/

/-- The address map (20_memory.md R62): which byte a read answers, range by range. The mirror row rests on decision D23 (log 15). -/
def Obligations.BusReadRoutesByRange : Prop :=
  ∀ (s : State) (a : Word),
    (a.toNat ≤ 0x7FFF → s.busRead a = s.regionByte .rom a.toNat) ∧
    (0x8000 ≤ a.toNat → a.toNat ≤ 0x9FFF → s.busRead a = s.regionByte .vram (a.toNat - 0x8000)) ∧
    (0xA000 ≤ a.toNat → a.toNat ≤ 0xBFFF → s.busRead a = s.regionByte .eram (a.toNat - 0xA000)) ∧
    (0xC000 ≤ a.toNat → a.toNat ≤ 0xDFFF → s.busRead a = s.regionByte .wram (a.toNat - 0xC000)) ∧
    (0xE000 ≤ a.toNat → a.toNat ≤ 0xFDFF → s.busRead a = s.regionByte .wram (a.toNat - 0xE000)) ∧
    (0xFE00 ≤ a.toNat → a.toNat ≤ 0xFE9F → s.busRead a = s.regionByte .oam (a.toNat - 0xFE00)) ∧
    (0xFEA0 ≤ a.toNat → a.toNat ≤ 0xFEFF → s.busRead a = 0xFF) ∧
    (0xFF00 ≤ a.toNat → a.toNat ≤ 0xFF7F → s.busRead a = s.regionByte .io (a.toNat - 0xFF00)) ∧
    (0xFF80 ≤ a.toNat → a.toNat ≤ 0xFFFE → s.busRead a = s.regionByte .hram (a.toNat - 0xFF80)) ∧
    (a.toNat = 0xFFFF → s.busRead a = s.regionByte .ie 0)

/-- 20_memory.md R63: a write stores the byte that routing names; it then reads back, at every address routed to it; every other byte and
every other part of the state is as before; in the unusable range the write changes nothing. -/
def Obligations.BusWriteStoresOneByte : Prop :=
  ∀ (s : State) (a : Word) (v : Byte), s.mem.wf = true →
    (route a ≠ none → (s.busWrite a v).busRead a = v) ∧
    (route a ≠ none → ∀ b, route b = route a → (s.busWrite a v).busRead b = v) ∧
    (∀ b, route b ≠ route a → (s.busWrite a v).busRead b = s.busRead b) ∧
    (route a = none ↔ 0xFEA0 ≤ a.toNat ∧ a.toNat ≤ 0xFEFF) ∧
    (route a = none → s.busWrite a v = s) ∧
    (s.busWrite a v).cpu = s.cpu ∧ (s.busWrite a v).video = s.video ∧ (s.busWrite a v).buttons = s.buttons ∧
    (s.busWrite a v).frameCyc = s.frameCyc

/-- The work-RAM mirror (20_memory.md R65): reading or writing at `a` in 0xE000-0xFDFF is reading or writing at `a - 0x2000`; no address of
0xDE00-0xDFFF has a mirror. The offset is decision D23 (log 15). -/
def Obligations.MirrorAliasesWorkRam : Prop :=
  (∀ (s : State) (a : Word) (v : Byte), 0xE000 ≤ a.toNat → a.toNat ≤ 0xFDFF →
    s.busRead a = s.busRead (a - 0x2000) ∧ s.busWrite a v = s.busWrite (a - 0x2000) v) ∧
  (∀ a b : Word, 0xDE00 ≤ a.toNat → a.toNat ≤ 0xDFFF → route b = route a → b = a)

/-- The unusable range (20_memory.md R66): it reads 0xFF and discards writes; a fetch from it gives the opcode byte 0xFF, a fallback opcode;
a CALL whose two stack bytes, at SP-1 and SP-2, both lie there stores nothing; a RET whose two bytes, at SP and SP+1, both lie there loads
PC with 0xFFFF. -/
def Obligations.UnusableRange : Prop :=
  (∀ (s : State) (a : Word) (v : Byte), 0xFEA0 ≤ a.toNat → a.toNat ≤ 0xFEFF → s.busRead a = 0xFF ∧ s.busWrite a v = s) ∧
  (∀ s : State, 0xFEA0 ≤ s.cpu.pc.toNat → s.cpu.pc.toNat ≤ 0xFEFF → s.fetch.opcode = 0xFF ∧ s.fetch.isFallback = true) ∧
  (∀ (s : State) (a : Word), 0xFEA2 ≤ s.cpu.sp.toNat → s.cpu.sp.toNat ≤ 0xFF00 →
    ∃ t, exec (.call a) s = .next t ∧ t.mem = s.mem ∧ t.cpu.pc = a ∧ t.cpu.sp = s.cpu.sp - 2) ∧
  (∀ s : State, 0xFEA0 ≤ s.cpu.sp.toNat → s.cpu.sp.toNat ≤ 0xFEFE →
    ∃ t, exec .ret s = .next t ∧ t.cpu.pc = 0xFFFF ∧ t.cpu.sp = s.cpu.sp + 2 ∧ t.mem = s.mem)

/-- 20_memory.md R75: image byte `i` lands at address `i`, a longer image is cut at 32,768 bytes, a shorter one is followed by zeros, and
no other region is touched. -/
def Obligations.LoadProgramRewritesCartridge : Prop :=
  ∀ (s : State) (img : List Byte),
    (∀ i, i < 32768 → i < img.length → (s.busLoadProgram img).busRead (BitVec.ofNat 16 i) = img.getD i 0) ∧
    (∀ i, i < 32768 → img.length ≤ i → (s.busLoadProgram img).busRead (BitVec.ofNat 16 i) = 0x00) ∧
    (∀ a : Word, 0x8000 ≤ a.toNat → (s.busLoadProgram img).busRead a = s.busRead a) ∧
    (s.busLoadProgram img).cpu = s.cpu ∧ (s.busLoadProgram img).video = s.video ∧
    (s.busLoadProgram img).buttons = s.buttons ∧ (s.busLoadProgram img).frameCyc = s.frameCyc

/-! ### Decoding and encoding -/

/-- Words written out from the encodings of 30_encoding.md R100 and R104, one for each family, decode to the instruction they stand for.
The bytes 0x3E, 0xEA, 0x76 are the source's; the others are decision D2 (log 1). -/
def Obligations.DecodeSampleWords : Prop :=
  decode [0x00] = .ok (.nop, []) ∧
  decode [0x06, 0x77] = .ok (.ldB 0x77, []) ∧
  decode [0x3E, 0x05] = .ok (.ldA 0x05, []) ∧
  decode [0xEA, 0x00, 0xC0] = .ok (.storeA 0xC000, []) ∧
  decode [0xFA, 0x80, 0xFF] = .ok (.loadA 0xFF80, []) ∧
  decode [0xC3, 0x50, 0x01] = .ok (.jp 0x0150, []) ∧
  decode [0xCD, 0x60, 0x01] = .ok (.call 0x0160, []) ∧
  decode [0xC9] = .ok (.ret, []) ∧
  decode [0xAF] = .ok (.xorA, []) ∧
  decode [0x76] = .ok (.halt, []) ∧
  decode [0x36, 0x76] = .ok (.fallback36, [0x76]) ∧
  decode [0xCB, 0x76] = .ok (.fallbackCB, [0x76])

/-- Decoding an encoded instruction gives it back with the bytes after it, for every instruction and every operand value. -/
def Obligations.DecodeInvertsEncode : Prop :=
  ∀ (i : Instr) (rest : List Byte), decode (i.encode ++ rest) = .ok (i, rest)

/-- Each list of bytes has one reading: what decodes to an instruction is its encoding and the bytes after it. -/
def Obligations.EncodeInvertsDecode : Prop :=
  ∀ (bytes rest : List Byte) (i : Instr), decode bytes = .ok (i, rest) → i.encode ++ rest = bytes

/-- Every byte value decodes, to an instruction with that opcode byte (30_encoding.md R101, R106): the decoder refuses only a list that ends
before its instruction does. -/
def Obligations.DecodeIsTotal : Prop :=
  (∀ (b0 b1 b2 : Byte) (rest : List Byte), ∃ i rest', decode (b0 :: b1 :: b2 :: rest) = .ok (i, rest') ∧ i.opcode = b0) ∧
  (∀ (bytes : List Byte) (e : DecodeError), decode bytes = .error e →
    (e = .empty ∧ bytes = []) ∨ (e = .truncated ∧ ∃ b0 tail, bytes = b0 :: tail ∧ tail.length < (decodeBytes b0 0 0).length - 1))

/-- The length is a function of the opcode byte alone (30_encoding.md R100, R107): 2 for the seven immediate loads, 3 for the four with an
address, 1 for every other value. The opcode bytes are decision D2 (log 1). -/
def Obligations.LengthFollowsOpcode : Prop :=
  ∀ i : Instr, i.length =
    if i.opcode ∈ [0x06#8, 0x0E#8, 0x16#8, 0x1E#8, 0x26#8, 0x2E#8, 0x3E#8] then 2
    else if i.opcode ∈ [0xEA#8, 0xFA#8, 0xC3#8, 0xCD#8] then 3
    else 1

/-- A byte is a fallback opcode exactly when it is none of the fifteen of 30_encoding.md R104 (R106): it then decodes to a one-byte
instruction whatever follows. Twelve of the fifteen bytes are decision D2 (log 1). -/
def Obligations.FallbackBytesDecode : Prop :=
  ∀ b0 b1 b2 : Byte,
    ((decodeBytes b0 b1 b2).isFallback = true ↔
      b0 ∉ [0x00#8, 0x06#8, 0x0E#8, 0x16#8, 0x1E#8, 0x26#8, 0x2E#8, 0x3E#8, 0x76#8, 0xAF#8, 0xC3#8, 0xC9#8, 0xCD#8, 0xEA#8, 0xFA#8]) ∧
    ((decodeBytes b0 b1 b2).isFallback = true → (decodeBytes b0 b1 b2).encode = [b0])

/-- Immediates (30_encoding.md R103; 20_memory.md R70): `d8` is byte 1 as it is, `a16` is byte 2 times 256 plus byte 1. Which opcode bytes
have them is decision D2 (log 1). -/
def Obligations.ImmediatesLittleEndian : Prop :=
  ∀ b1 b2 : Byte, ∃ a : Word, a.toNat = b2.toNat * 256 + b1.toNat ∧
    decodeBytes 0x06 b1 b2 = .ldB b1 ∧ decodeBytes 0x0E b1 b2 = .ldC b1 ∧ decodeBytes 0x16 b1 b2 = .ldD b1 ∧
    decodeBytes 0x1E b1 b2 = .ldE b1 ∧ decodeBytes 0x26 b1 b2 = .ldH b1 ∧ decodeBytes 0x2E b1 b2 = .ldL b1 ∧
    decodeBytes 0x3E b1 b2 = .ldA b1 ∧
    decodeBytes 0xEA b1 b2 = .storeA a ∧ decodeBytes 0xFA b1 b2 = .loadA a ∧
    decodeBytes 0xC3 b1 b2 = .jp a ∧ decodeBytes 0xCD b1 b2 = .call a

/-- The assembler (30_encoding.md R105, R106, R109): a line is refused exactly when it is ill formed, that is when it is an immediate load
of F, has a `d8` above 255 or an `a16` above 65535, or is `.fallback` of a defined byte or of a number above 255; and an accepted line's
bytes decode to the instruction the line names. The bytes and the names are decisions D2 and D21 (log 1). -/
def Obligations.AssemblerAgreesWithDecoder : Prop :=
  (∀ line : Asm, line.wellFormed = false → line.assemble = none) ∧
  (∀ line : Asm, line.assemble = none ↔
    (∃ n, line = .ldImm .f n) ∨ (∃ r n, line = .ldImm r n ∧ 256 ≤ n) ∨
    (∃ n, 65536 ≤ n ∧ (line = .storeA n ∨ line = .loadA n ∨ line = .jp n ∨ line = .call n)) ∨
    (∃ n, line = .fallback n ∧ (256 ≤ n ∨
      n ∈ [0x00, 0x06, 0x0E, 0x16, 0x1E, 0x26, 0x2E, 0x3E, 0x76, 0xAF, 0xC3, 0xC9, 0xCD, 0xEA, 0xFA]))) ∧
  (∀ (r : Reg8) (n : Nat), r ≠ .f → n < 256 → ∃ bytes i, (Asm.ldImm r n).assemble = some bytes ∧ decode bytes = .ok (i, []) ∧
    i = (match r with
      | .a => .ldA (BitVec.ofNat 8 n) | .b => .ldB (BitVec.ofNat 8 n) | .c => .ldC (BitVec.ofNat 8 n) | .d => .ldD (BitVec.ofNat 8 n)
      | .e => .ldE (BitVec.ofNat 8 n) | .h => .ldH (BitVec.ofNat 8 n) | .l => .ldL (BitVec.ofNat 8 n) | .f => .nop)) ∧
  (∀ n : Nat, n < 65536 →
    (∃ bytes, (Asm.storeA n).assemble = some bytes ∧ decode bytes = .ok (.storeA (BitVec.ofNat 16 n), [])) ∧
    (∃ bytes, (Asm.loadA n).assemble = some bytes ∧ decode bytes = .ok (.loadA (BitVec.ofNat 16 n), [])) ∧
    (∃ bytes, (Asm.jp n).assemble = some bytes ∧ decode bytes = .ok (.jp (BitVec.ofNat 16 n), [])) ∧
    (∃ bytes, (Asm.call n).assemble = some bytes ∧ decode bytes = .ok (.call (BitVec.ofNat 16 n), []))) ∧
  (∀ line : Asm, line ∈ [.nop, .ret, .xorA, .halt] → ∃ bytes i, line.assemble = some bytes ∧ decode bytes = .ok (i, []) ∧
    (line, i) ∈ [(Asm.nop, Instr.nop), (.ret, .ret), (.xorA, .xorA), (.halt, .halt)]) ∧
  (∀ n : Nat, n < 256 → BitVec.ofNat 8 n ∉ definedOpcodes →
    ∃ i : Instr, (Asm.fallback n).assemble = some [BitVec.ofNat 8 n] ∧ decode [BitVec.ofNat 8 n] = .ok (i, []) ∧ i.isFallback = true)

/-! ### What each instruction does: its next state in full, so its result and its frame at once -/

/-- NOP (40_nop.md R120): the PC moves past the one byte, and nothing else changes, from every state. -/
def Obligations.NopOnlyAdvancesPc : Prop :=
  ∀ s : State, exec .nop s = .next { s with cpu := { s.cpu with pc := s.cpu.pc + 1 } }

/-- The 241 fallback instructions `fallback01` to `fallbackFF` (44_halt_and_fallback.md R160): each completes from every state, moves the PC
past its one byte and changes nothing else, and costs what NOP costs. Which bytes these are follows decision D2 (log 1). -/
def Obligations.FallbackActsAsNop : Prop :=
  ∀ i : Instr, i.isFallback = true → cyc i.opcode = cyc Instr.nop.opcode ∧
    ∀ s : State, exec i s = .next { s with cpu := { s.cpu with pc := s.cpu.pc + 1 } }

/-- The seven immediate loads `ldB` `ldC` `ldD` `ldE` `ldH` `ldL` `ldA` (41_loads.md R125 to R132): the named register holds `d8`, the PC
moves by two, and nothing else changes, no flag and no byte of memory, from every state. -/
def Obligations.ImmediateLoads : Prop :=
  ∀ (s : State) (v : Byte),
    exec (.ldB v) s = .next { s with cpu := { s.cpu with b := v, pc := s.cpu.pc + 2 } } ∧
    exec (.ldC v) s = .next { s with cpu := { s.cpu with c := v, pc := s.cpu.pc + 2 } } ∧
    exec (.ldD v) s = .next { s with cpu := { s.cpu with d := v, pc := s.cpu.pc + 2 } } ∧
    exec (.ldE v) s = .next { s with cpu := { s.cpu with e := v, pc := s.cpu.pc + 2 } } ∧
    exec (.ldH v) s = .next { s with cpu := { s.cpu with h := v, pc := s.cpu.pc + 2 } } ∧
    exec (.ldL v) s = .next { s with cpu := { s.cpu with l := v, pc := s.cpu.pc + 2 } } ∧
    exec (.ldA v) s = .next { s with cpu := { s.cpu with a := v, pc := s.cpu.pc + 2 } }

/-- `LD (a16),A` (41_loads.md R133): completes from every state with canonical storage; the accumulator's byte is stored at `a16` (at every
address routed to that byte; nowhere if `a16` is unusable); every other byte reads as before; the PC moves by three; no register, no flag
and nothing else changes. -/
def Obligations.StoreAccumulator : Prop :=
  ∀ (s : State) (a : Word), s.mem.wf = true → ∃ t, exec (.storeA a) s = .next t ∧
    t.cpu = { s.cpu with pc := s.cpu.pc + 3 } ∧ t.video = s.video ∧ t.buttons = s.buttons ∧ t.frameCyc = s.frameCyc ∧
    (∀ b, route b = route a → t.busRead b = if route a = none then 0xFF else s.cpu.a) ∧
    (∀ b, route b ≠ route a → t.busRead b = s.busRead b)

/-- `LD A,(a16)` (41_loads.md R134): A holds the byte that a read of `a16` answers, the PC moves by three, and nothing else changes, no flag
and no byte of memory, from every state. -/
def Obligations.LoadAccumulator : Prop :=
  ∀ (s : State) (a : Word), exec (.loadA a) s = .next { s with cpu := { s.cpu with a := s.busRead a, pc := s.cpu.pc + 3 } }

/-- `JP a16` (42_control.md R140): the PC is the operand, and nothing else changes, from every state. -/
def Obligations.JumpLoadsPc : Prop :=
  ∀ (s : State) (a : Word), exec (.jp a) s = .next { s with cpu := { s.cpu with pc := a } }

/-- `CALL a16` (42_control.md R141; 20_memory.md R70): completes from every state with canonical storage; the return address is the address
after the operand bytes, its high byte stored at SP-1 and its low byte at SP-2 (each nowhere if unusable); SP goes down by two; the PC is
the operand; every other byte, every register and everything else is as before. -/
def Obligations.CallPushesReturnAddress : Prop :=
  ∀ (s : State) (a : Word), s.mem.wf = true → ∃ t, exec (.call a) s = .next t ∧
    t.cpu = { s.cpu with pc := a, sp := s.cpu.sp - 2 } ∧ t.video = s.video ∧ t.buttons = s.buttons ∧ t.frameCyc = s.frameCyc ∧
    (∀ b, route b = route (s.cpu.sp - 1) → t.busRead b = if route b = none then 0xFF else hiByte (s.cpu.pc + 3)) ∧
    (∀ b, route b = route (s.cpu.sp - 2) → t.busRead b = if route b = none then 0xFF else loByte (s.cpu.pc + 3)) ∧
    (∀ b, route b ≠ route (s.cpu.sp - 1) → route b ≠ route (s.cpu.sp - 2) → t.busRead b = s.busRead b)

/-- `RET` (42_control.md R142): the PC is the word at SP, low byte there and high byte at SP+1; SP goes up by two; nothing else changes, no
byte of memory, from every state. -/
def Obligations.ReturnPopsPc : Prop :=
  ∀ s : State, exec .ret s = .next { s with cpu := { s.cpu with
    pc := word16 (s.busRead (s.cpu.sp + 1)) (s.busRead s.cpu.sp), sp := s.cpu.sp + 2 } }

/-- `XOR A` (43_alu.md R150): A is 0x00 and F is 0x80 whatever they were, the PC moves by one, and nothing else changes, from every state.
That the four flags read 0x80 is decision D5 (log 3). -/
def Obligations.XorClearsAccumulator : Prop :=
  ∀ s : State, exec .xorA s = .next { s with cpu := { s.cpu with a := 0x00, f := 0x80, pc := s.cpu.pc + 1 } }

/-- `HALT` (44_halt_and_fallback.md R155): HALTED is set, the PC moves past the opcode, and nothing else changes, from every state. -/
def Obligations.HaltSetsLatch : Prop :=
  ∀ s : State, exec .halt s = .next { s with cpu := { s.cpu with halted := true, pc := s.cpu.pc + 1 } }

/-! ### Rules over the whole instruction set -/

/-- 10_state.md R28: XOR A makes Z = 1, N = 0, H = 0, C = 0; every other instruction leaves F unchanged; and no instruction reads a flag:
with another value in F every instruction gives the same next state but for F. -/
def Obligations.OnlyXorTouchesFlags : Prop :=
  (∀ s t : State, exec .xorA s = .next t →
    t.cpu.flagZ = true ∧ t.cpu.flagN = false ∧ t.cpu.flagH = false ∧ t.cpu.flagC = false) ∧
  (∀ (i : Instr) (s : State), i ≠ .xorA → ∃ t, exec i s = .next t ∧ t.cpu.f = s.cpu.f ∧
    ∀ v, exec i { s with cpu := { s.cpu with f := v } } = .next { t with cpu := { t.cpu with f := v } }) ∧
  (∀ (s : State) (v : Byte), exec .xorA { s with cpu := { s.cpu with f := v } } = exec .xorA s)

/-- The low nibble of F (10_state.md R27): a write to F keeps the high nibble and zeroes the low one; F is written only by XOR A, with 0x80,
and by reset, with 0xB0; so the low nibble of F stays zero in every machine step. That XOR A's flags read 0x80 is decision D5 (log 3). -/
def Obligations.FlagLowNibbleStaysZero : Prop :=
  (∀ (s : State) (v : Byte), (s.setReg .f v).cpu.f = v &&& 0xF0 ∧ (s.setReg .f v).cpu.f &&& 0x0F = 0) ∧
  State.reset.cpu.f = 0xB0 ∧ (∀ (s : State) (img : List Byte), (s.loadProgram img).cpu.f = 0xB0) ∧
  (∀ s t : State, step s = .next t → t.cpu.f = s.cpu.f ∨ (s.cpu.halted = false ∧ s.fetch = .xorA ∧ t.cpu.f = 0x80)) ∧
  (∀ s t : State, s.cpu.f &&& 0x0F = 0 → step s = .next t → t.cpu.f &&& 0x0F = 0)

/-- 10_state.md R29: reset clears HALTED; HALT sets it; no other instruction, no other sub-block and no host call but a program load writes
it, so that a machine step and a whole `Seq.step_frame` of a halted machine leave it set; a program load clears it; and `Cpu.step` looks
at it before anything else: while it is set no instruction runs. -/
def Obligations.HaltedLatchWriters : Prop :=
  State.reset.cpu.halted = false ∧
  (∀ s : State, ∃ t, exec .halt s = .next t ∧ t.cpu.halted = true) ∧
  (∀ (i : Instr) (s t : State), i ≠ .halt → exec i s = .next t → t.cpu.halted = s.cpu.halted) ∧
  (∀ s : State, s.joyUpdate.cpu.halted = s.cpu.halted) ∧
  (∀ (s : State) (c : Cycles), (s.vidStep c).1.cpu.halted = s.cpu.halted) ∧
  (∀ (s : State) (n : Button) (p : Bool), (s.setButton n p).cpu.halted = s.cpu.halted) ∧
  (∀ (s : State) (img : List Byte), (s.loadProgram img).cpu.halted = false) ∧
  (∀ s : State, s.cpu.halted = true → s.cpuStep = .next (s.charge s.cpuCost)) ∧
  (∀ s t : State, s.cpu.halted = true → step s = .next t → t.cpu.halted = true) ∧
  (∀ (s : State) (r : HostReply), s.cpu.halted = true → s.stepFrame = .next r → r.state.cpu.halted = true)

/-- The stack pointer (10_state.md R25): only CALL, down by two, and RET, up by two, change it, modulo 65,536. -/
def Obligations.StackPointerWriters : Prop :=
  ∀ (i : Instr) (s t : State), exec i s = .next t →
    (∀ a, i = .call a → t.cpu.sp = s.cpu.sp - 2) ∧ (i = .ret → t.cpu.sp = s.cpu.sp + 2) ∧
    ((∀ a, i ≠ .call a) → i ≠ .ret → t.cpu.sp = s.cpu.sp)

/-- The reach of an instruction (20_memory.md R72; 10_state.md R32 to R35): it reaches nothing but the CpuCore and storage: VideoUnit,
InputLatch, `FRAME_CYC` and the cycle counter are as before; and only `LD (a16),A` and CALL store. -/
def Obligations.InstructionReach : Prop :=
  ∀ (i : Instr) (s t : State), exec i s = .next t →
    t.video = s.video ∧ t.buttons = s.buttons ∧ t.frameCyc = s.frameCyc ∧ t.cpu.tcount = s.cpu.tcount ∧
    ((∀ a, i ≠ .storeA a) → (∀ a, i ≠ .call a) → t.mem = s.mem)

/-- Every instruction of 256 completes from every state: no fault and no refusal (60_exceptions.md R240, R241). -/
def Obligations.EveryInstructionCompletes : Prop :=
  ∀ (i : Instr) (s : State), ∃ t, exec i s = .next t

/-- CALL then RET (42_control.md R143): if a machine step runs a CALL and the next one, at its target, runs a RET, the PC is the address
after the CALL's operand bytes, SP is what it was, and the two stack bytes keep the return address, where the stack bytes are neither
unusable nor one of the three bytes that the other sub-blocks rewrite. -/
def Obligations.CallThenReturn : Prop :=
  ∀ (s u v : State) (a : Word), s.mem.wf = true → s.cpu.halted = false → s.fetch = .call a → step s = .next u →
    u.fetch = .ret → step u = .next v →
    route (s.cpu.sp - 1) ≠ none → route (s.cpu.sp - 2) ≠ none →
    isSharedByte (s.cpu.sp - 1) = false → isSharedByte (s.cpu.sp - 2) = false →
    v.cpu.pc = s.cpu.pc + 3 ∧ v.cpu.sp = s.cpu.sp ∧
    v.busRead (s.cpu.sp - 1) = hiByte (s.cpu.pc + 3) ∧ v.busRead (s.cpu.sp - 2) = loByte (s.cpu.pc + 3)

/-- Self-modifying code (20_memory.md R84; 42_control.md): a machine step that stores A at the address the PC will then hold makes A the
opcode byte of the very next instruction, where that byte has storage and is none of the three that the other sub-blocks rewrite. -/
def Obligations.StoreIsFetchedNext : Prop :=
  ∀ s u : State, s.mem.wf = true → s.cpu.halted = false → s.fetch = .storeA (s.cpu.pc + 3) → step s = .next u →
    route (s.cpu.pc + 3) ≠ none → isSharedByte (s.cpu.pc + 3) = false →
    u.cpu.pc = s.cpu.pc + 3 ∧ u.fetch.opcode = s.cpu.a

/-! ### The machine step -/

/-- A step runs the decoded instruction (30_encoding.md R101; 52_machine_loop.md R217): where the bytes at the PC decode to `i`, and
`exec` of `i` at that state answers `t`, the step charges the cost of the opcode, updates the input register, feeds the cost to the
VideoUnit, and counts it toward the frame. How `FRAME_CYC` is held between calls is the model's choice (log 13). -/
def Obligations.StepRunsDecodedInstruction : Prop :=
  ∀ (s t : State) (i : Instr) (rest : List Byte), s.cpu.halted = false → decode s.fetchBytes = .ok (i, rest) → exec i s = .next t →
    step s = .next { (((t.charge (cyc i.opcode)).joyUpdate.vidStep (cyc i.opcode)).1) with
      frameCyc := nextFrameCyc s.frameCyc (cyc i.opcode) }

/-- A step while halted (44_halt_and_fallback.md R156; 52_machine_loop.md R221, R226): only the cycle counter of the CpuCore changes, by
HALT_IDLE = 4 (decision D4, log 2); no byte but JOYP, IF and LY and no button changes; the CPU stays halted. -/
def Obligations.HaltedStep : Prop :=
  ∀ s : State, s.cpu.halted = true → ∃ t, step s = .next t ∧
    t.cpu = { s.cpu with tcount := s.cpu.tcount + 4 } ∧ t.buttons = s.buttons ∧
    (∀ a, isSharedByte a = false → t.busRead a = s.busRead a)

/-- Every machine step answers a next state: "The core is designed to never fail during normal operation" (60_exceptions.md R240). -/
def Obligations.StepNeverStops : Prop :=
  ∀ s : State, ∃ t, step s = .next t

/-- Cycle costs (70_reset_and_hazards.md R290; the numbers are decisions D3 and D4, log 2): the table, and so 4 to 24 cycles a machine step,
which crosses at most one scanline boundary (50_video_unit.md R173). -/
def Obligations.CycleCosts : Prop :=
  (∀ op : Byte, cyc op =
    if op ∈ [0x06#8, 0x0E#8, 0x16#8, 0x1E#8, 0x26#8, 0x2E#8, 0x3E#8] then 8
    else if op ∈ [0xEA#8, 0xFA#8, 0xC3#8, 0xC9#8] then 16
    else if op = 0xCD then 24 else 4) ∧
  (∀ s : State, s.cpu.halted = true → s.cpuCost = 4) ∧
  (∀ s : State, 4 ≤ s.cpuCost.toNat ∧ s.cpuCost.toNat ≤ 24) ∧
  (∀ s : State, s.video.acc < 456 → (s.video.acc + s.cpuCost.toNat) / 456 ≤ 1)

/-! ### Invariants -/

/-- The state after construction meets both invariants. -/
def Obligations.ResetMeetsInvariants : Prop :=
  State.reset.Inv ∧ State.reset.OnTime

/-- Every machine step keeps the invariant: canonical storage and framebuffer, the low nibble of F zero, `ACC` and `LINE` in range
(10_state.md R27, R32; 50_video_unit.md R171), the frame short of its budget (52_machine_loop.md R216). -/
def Obligations.StepKeepsInvariant : Prop :=
  ∀ s t : State, s.Inv → step s = .next t → t.Inv

/-- The closed form of the clock (50_video_unit.md R171): every machine step keeps `ACC = T mod 456` and `LINE = (T div 456) mod 154` for
the total cycle count `T`; a program load makes it so. -/
def Obligations.ClockClosedForm : Prop :=
  (∀ s t : State, s.OnTime → step s = .next t → t.OnTime) ∧
  (∀ (s : State) (img : List Byte), (s.loadProgram img).OnTime)

/-- The host's calls keep the invariant. -/
def Obligations.HostCallKeepsInvariant : Prop :=
  ∀ (call : HostCall) (s : State) (r : HostReply), s.Inv → hostCall call s = .next r → r.state.Inv

/-! ### The VideoUnit -/

/-- `Vid.step` in closed form (50_video_unit.md R171, R172, R178): with (ACC + c) div 456 boundaries crossed, `ACC` is the remainder, `LINE`
has advanced by their number modulo 154, and the result is 1 exactly if one of the lines entered is 144. That ACC + c does not wrap is
decision D31 (log 22). -/
def Obligations.VidStepClosedForm : Prop :=
  ∀ (s : State) (c : Cycles), s.video.line < 154 →
    (s.vidStep c).1.video.acc = (s.video.acc + c.toNat) % 456 ∧
    (s.vidStep c).1.video.line = (s.video.line + (s.video.acc + c.toNat) / 456) % 154 ∧
    ((s.vidStep c).2 = true ↔ ∃ k, 1 ≤ k ∧ k ≤ (s.video.acc + c.toNat) / 456 ∧ (s.video.line + k) % 154 = 144)

/-- Each crossing is processed by itself and in order (50_video_unit.md R173): one call with a large count does what two calls with counts
of that sum do, and reports a frame exactly if one of the two does. That the accumulator does not wrap is decision D31 (log 22). -/
def Obligations.VidStepSplits : Prop :=
  ∀ (s : State) (a b : Cycles), a.toNat + b.toNat < 2 ^ 32 →
    s.vidStep (a + b) = (((s.vidStep a).1.vidStep b).1, (s.vidStep a).2 || ((s.vidStep a).1.vidStep b).2)

/-- The blanking lines (50_video_unit.md R177): entering a line of 145 to 153 writes LY and does nothing else; and a bit of IF, the
vertical-blank bit among them, once set is cleared by no sub-block, by no host call and by no instruction that does not store to 0xFF0F.
That a program load keeps IF is decision D14 (log 11). -/
def Obligations.BlankingLines : Prop :=
  (∀ s : State, 144 ≤ s.video.line → s.video.line ≤ 152 →
    s.crossLine = (s.nextLine, false) ∧ s.nextLine.video.fb = s.video.fb ∧ s.nextLine.video.line = s.video.line + 1 ∧
    s.nextLine.cpu = s.cpu ∧ s.nextLine.buttons = s.buttons ∧ s.nextLine.frameCyc = s.frameCyc ∧
    (∀ a, a ≠ lyAddr → s.nextLine.busRead a = s.busRead a) ∧
    (s.mem.wf = true → s.nextLine.busRead lyAddr = BitVec.ofNat 8 (s.video.line + 1))) ∧
  (∀ (s : State) (c : Cycles) (k : Nat), s.mem.wf = true → (s.busRead ifAddr).getLsbD k = true →
    ((s.vidStep c).1.busRead ifAddr).getLsbD k = true) ∧
  (∀ s : State, s.joyUpdate.busRead ifAddr = s.busRead ifAddr) ∧
  (∀ (s : State) (n : Button) (p : Bool) (k : Nat), s.mem.wf = true → (s.busRead ifAddr).getLsbD k = true →
    ((s.setButton n p).busRead ifAddr).getLsbD k = true) ∧
  (∀ (s : State) (img : List Byte), (s.loadProgram img).busRead ifAddr = s.busRead ifAddr) ∧
  (∀ (i : Instr) (s t : State), exec i s = .next t → i ≠ .storeA ifAddr →
    (∀ a, i = .call a → s.cpu.sp - 1 ≠ ifAddr ∧ s.cpu.sp - 2 ≠ ifAddr) → t.busRead ifAddr = s.busRead ifAddr)

/-- Line 144 (50_video_unit.md R172, R176): entering it sets bit 0 of IF and keeps the other seven, writes LY, renders nothing, changes no
other byte, and reports a frame. The bit number is decision D7 (log 4). -/
def Obligations.VerticalBlank : Prop :=
  ∀ s : State, s.mem.wf = true → s.video.line = 143 →
    s.crossLine.2 = true ∧ s.crossLine.1.busRead ifAddr = s.busRead ifAddr ||| 0x01 ∧ s.crossLine.1.busRead lyAddr = 144 ∧
    s.crossLine.1.video = { s.video with acc := s.video.acc - 456, line := 144 } ∧
    s.crossLine.1.cpu = s.cpu ∧ s.crossLine.1.buttons = s.buttons ∧
    (∀ a, a ≠ ifAddr → a ≠ lyAddr → s.crossLine.1.busRead a = s.busRead a)

/-- LY mirrors LINE (50_video_unit.md R174; 70_reset_and_hazards.md R282): after each crossing LY is LINE; a CPU store to 0xFF44 changes
LY and not LINE. That LINE and not LY is the scanline number is decision D13 (log 10). -/
def Obligations.LyMirrorsLine : Prop :=
  (∀ s : State, s.mem.wf = true →
    s.crossLine.1.busRead lyAddr = BitVec.ofNat 8 s.crossLine.1.video.line ∧
    s.crossLine.1.video.line = (s.video.line + 1) % 154) ∧
  (∀ s : State, s.mem.wf = true → ∃ t, exec (.storeA 0xFF44) s = .next t ∧ t.video = s.video ∧ t.busRead lyAddr = s.cpu.a)

/-- LCD off (50_video_unit.md R180): the scanline is left untouched, and the scanline counter runs as it does with the LCD on. That bit 7 of
LCDC is the enable is decision D8 (log 5). -/
def Obligations.LcdOffLeavesScanline : Prop :=
  ∀ s : State, ((s.busRead 0xFF40).getLsbD 7 = false → s.crossLine.1.video.fb = s.video.fb) ∧
    s.crossLine.1.video.line = (s.video.line + 1) % 154 ∧ s.crossLine.1.video.acc = s.video.acc - 456 ∧
    (s.crossLine.2 = true ↔ (s.video.line + 1) % 154 = 144)

/-- 50_video_unit.md R187: with the LCD on, rendering line `y` writes the palette colour of each of the line's 160 pixels, component by
component, at its place in the framebuffer, and writes no other row. -/
def Obligations.RenderWritesOneRow : Prop :=
  ∀ s : State, s.lcdEnabled = true → s.video.line < 144 →
    (∀ x k, x < 160 → k < 4 →
      FrameBuffer.byteAt s.renderScanline.video.fb (4 * (160 * s.video.line + x) + k) =
        Rgba.component (Config.palette (s.pixelColour s.video.line x)) k) ∧
    (∀ i, i / 640 ≠ s.video.line → FrameBuffer.byteAt s.renderScanline.video.fb i = FrameBuffer.byteAt s.video.fb i) ∧
    s.renderScanline = { s with video := { s.video with fb := s.renderScanline.video.fb } }

/-- The colour index of a pixel (50_video_unit.md R182 to R185), in plain arithmetic: scrolled coordinates modulo 256, the map cell, the
tile's address with an unsigned or a signed index, the two bitplane bits. Bit numbers, bases and layout are decision D8 (log 5). -/
def Obligations.PixelColourFormula : Prop :=
  ∀ (s : State) (x y : Nat),
    let read := fun n : Nat => s.busRead (BitVec.ofNat 16 n)
    let lcdc := read 0xFF40
    let bx := ((read 0xFF43).toNat + x) % 256
    let by' := ((read 0xFF42).toNat + y) % 256
    let idx := read ((bif lcdc.getLsbD 3 then 0x9C00 else 0x9800) + 32 * (by' / 8) + bx / 8)
    let tile := bif lcdc.getLsbD 4 then 0x8000 + 16 * idx.toNat else (0x9000 + 16 * idx.toInt).toNat
    0x8000 ≤ tile ∧ tile + 15 ≤ 0x97FF ∧
    (s.pixelColour y x).toNat =
      2 * ((read (tile + 2 * (by' % 8) + 1)).getLsbD (7 - bx % 8)).toNat + ((read (tile + 2 * (by' % 8))).getLsbD (7 - bx % 8)).toNat

/-- The frame-complete bit of a machine step (52_machine_loop.md R219; 50_video_unit.md R176): 1 exactly when the step enters line 144. -/
def Obligations.FrameCompleteAtLine144 : Prop :=
  ∀ (s : State) (m : MachineStep), s.video.acc < 456 → s.video.line < 154 → s.machineStep = .next m →
    m.cycles = s.cpuCost ∧
    (m.frameComplete = true ↔ s.video.line = 143 ∧ m.state.video.line = 144)

/-! ### The InputLatch -/

/-- `Joy.update` (51_input_latch.md R204): the register after an update, from the register before and the buttons; nothing else changes; a
second update changes nothing. That the lines of two selected groups are AND-ed is decision D16, the lines are D9 (log 6). -/
def Obligations.JoyUpdateRewritesJoyp : Prop :=
  ∀ s : State, s.mem.wf = true →
    (let reg := s.busRead 0xFF00
     let dir : Byte := if reg.getLsbD 4 then 0x0F else s.buttons.dirNib
     let act : Byte := if reg.getLsbD 5 then 0x0F else s.buttons.actNib
     s.joyUpdate.busRead 0xFF00 = 0xC0 ||| (reg &&& 0x30) ||| (0x0F &&& dir &&& act)) ∧
    (∀ a, a ≠ 0xFF00 → s.joyUpdate.busRead a = s.busRead a) ∧
    s.joyUpdate.cpu = s.cpu ∧ s.joyUpdate.video = s.video ∧ s.joyUpdate.buttons = s.buttons ∧ s.joyUpdate.frameCyc = s.frameCyc ∧
    s.joyUpdate.joyUpdate.busRead 0xFF00 = s.joyUpdate.busRead 0xFF00

/-- The lines (51_input_latch.md R201, R203, R205 to R207): bits 7 and 6 read 1, bits 5 and 4 as before, and each of the four low bits is 0
exactly if a selected group has its button pressed. The lines of buttons other than "a", and the rule where both groups or none are
selected, are decisions D9 and D16 (log 6). -/
def Obligations.JoypLines : Prop :=
  ∀ (b : Buttons) (reg : Byte),
    let out := joypAfter b reg
    let dir := !reg.getLsbD 4
    let act := !reg.getLsbD 5
    out.getLsbD 7 = true ∧ out.getLsbD 6 = true ∧ out.getLsbD 5 = reg.getLsbD 5 ∧ out.getLsbD 4 = reg.getLsbD 4 ∧
    out.getLsbD 0 = !((dir && b.right) || (act && b.a)) ∧
    out.getLsbD 1 = !((dir && b.left) || (act && b.b)) ∧
    out.getLsbD 2 = !((dir && b.up) || (act && b.select)) ∧
    out.getLsbD 3 = !((dir && b.down) || (act && b.start))

/-- `Joy.set_button` (51_input_latch.md R202): the named button holds `p`, the seven others are as before, bit 4 of IF is set and the other
seven kept, whatever the button held before; JOYP and every other byte, and the rest of the state, are as before. The bit number is
decision D7 (log 4); that JOYP is not refreshed is D27 (log 19). -/
def Obligations.SetButtonRaisesJoypadBit : Prop :=
  ∀ (s : State) (n : Button) (p : Bool), s.mem.wf = true →
    (s.setButton n p).buttons.get n = p ∧
    (∀ m, m ≠ n → (s.setButton n p).buttons.get m = s.buttons.get m) ∧
    (s.setButton n p).busRead 0xFF0F = s.busRead 0xFF0F ||| 0x10 ∧
    (∀ a, a ≠ 0xFF0F → (s.setButton n p).busRead a = s.busRead a) ∧
    (s.setButton n p).cpu = s.cpu ∧ (s.setButton n p).video = s.video ∧ (s.setButton n p).frameCyc = s.frameCyc

/-! ### Frames and the host -/

/-- `Seq.step_frame` (52_machine_loop.md R216, R218, R220): from any state between frames the call returns, its bound of 17,556 machine
steps being enough, with the frame over; 70,224 to 70,247 cycles have passed; the reply is a copy of the framebuffer as it is then, of
exactly 92,160 bytes. The costs behind the upper bound are decision D3 (log 2), the counter's start at 0 is D17 (log 13). -/
def Obligations.StepFrameReturns : Prop :=
  ∀ s : State, s.frameCyc = none → ∃ r copy, s.stepFrame = .next r ∧ r.state.frameCyc = none ∧
    s.cpu.tcount + 70224 ≤ r.state.cpu.tcount ∧ r.state.cpu.tcount ≤ s.cpu.tcount + 70247 ∧
    r.frame = some copy ∧ copy.length = 92160 ∧
    (∀ i, i < 92160 → copy.getD i 0 = FrameBuffer.byteAt r.state.video.fb i)

/-- A halted frame (52_machine_loop.md R221): exactly 70,224 cycles, the CpuCore unchanged but for the cycle counter. HALT_IDLE = 4 is
decision D4 (log 2). -/
def Obligations.HaltedFrame : Prop :=
  ∀ s : State, s.cpu.halted = true → s.frameCyc = none → ∃ r, s.stepFrame = .next r ∧
    r.state.cpu = { s.cpu with tcount := s.cpu.tcount + 70224 } ∧ r.state.buttons = s.buttons

/-- The host acts only between frames (52_machine_loop.md R224, R225; 93_implementation_defined.md U10; log 20): a call during a frame is
refused by name; between frames each call completes. -/
def Obligations.HostActsBetweenFrames : Prop :=
  (∀ (call : HostCall) (s : State) (n : Nat), s.frameCyc = some n → hostCall call s = .refused .hostCallDuringFrame) ∧
  (∀ (img : List Byte) (s : State), s.frameCyc = none → hostCall (.loadProgram img) s = .next ⟨s.loadProgram img, none⟩) ∧
  (∀ (n : Button) (p : Bool) (s : State), s.frameCyc = none → hostCall (.setButton n p) s = .next ⟨s.setButton n p, none⟩) ∧
  (∀ s : State, s.frameCyc = none → hostCall .stepFrame s = s.stepFrame ∧ ∃ r, s.stepFrame = .next r)

/-- What each part of a machine step can change (10_state.md R34; 50_video_unit.md R170; 51_input_latch.md R204; 52_machine_loop.md R217,
R226): `Vid.step` changes no register of the CpuCore, no button and no byte but LY and IF; `Joy.update` no register, no button, no part of
the VideoUnit and no byte but JOYP; so a machine step never changes a button, and the bytes it changes are those its instruction stores
and JOYP, IF and LY. -/
def Obligations.StepChangesOnlyStoredBytes : Prop :=
  (∀ (s : State) (c : Cycles), (s.vidStep c).1.cpu = s.cpu ∧ (s.vidStep c).1.buttons = s.buttons ∧
    (s.vidStep c).1.frameCyc = s.frameCyc ∧ ∀ a, a ≠ lyAddr → a ≠ ifAddr → (s.vidStep c).1.busRead a = s.busRead a) ∧
  (∀ s : State, s.joyUpdate.cpu = s.cpu ∧ s.joyUpdate.buttons = s.buttons ∧ s.joyUpdate.video = s.video ∧
    s.joyUpdate.frameCyc = s.frameCyc ∧ ∀ a, a ≠ joypAddr → s.joyUpdate.busRead a = s.busRead a) ∧
  ∀ s t : State, step s = .next t → t.buttons = s.buttons ∧
    ∀ b, isSharedByte b = false →
      (∀ a, s.fetch = .storeA a → route b ≠ route a) →
      (∀ a, s.fetch = .call a → route b ≠ route (s.cpu.sp - 1) ∧ route b ≠ route (s.cpu.sp - 2)) →
      t.busRead b = s.busRead b

/-! ### Crossing into a line -/

/-- `Vid.step` of one machine step (50_video_unit.md R172): short of a boundary it adds the cycles and reports nothing; at one boundary, and
not yet at a second, it adds the cycles and then crosses the line, and its result is the crossing's. -/
def Obligations.VidStepCrossesOneLine : Prop :=
  ∀ (s : State) (c : Cycles),
    let t := { s with video := { s.video with acc := s.video.acc + c.toNat } }
    (s.video.acc + c.toNat < 456 → s.vidStep c = (t, false)) ∧
    (456 ≤ s.video.acc + c.toNat → s.video.acc + c.toNat < 912 → s.vidStep c = t.crossLine)

/-- Visible lines (50_video_unit.md R172, R175): crossing into a line of 0 to 143, line 0 from 153 among them, renders that line then and
there, after LY is written, and reports no frame; with the LCD on, the row holds the palette colours of the pixels as LCDC, SCY, SCX and
video RAM are at the crossing, which the write of LY does not change; no other row changes. That bit 7 of LCDC turns the LCD on is
decision D8 (log 5). -/
def Obligations.VisibleLineRendersOnEntry : Prop :=
  ∀ s : State, (s.video.line + 1) % 154 < 144 →
    s.crossLine = (s.nextLine.renderScanline, false) ∧ s.crossLine.1.video.line = (s.video.line + 1) % 154 ∧
    (s.lcdEnabled = true → ∀ x k, x < 160 → k < 4 →
      FrameBuffer.byteAt s.crossLine.1.video.fb (4 * (160 * ((s.video.line + 1) % 154) + x) + k) =
        Rgba.component (Config.palette (s.pixelColour ((s.video.line + 1) % 154) x)) k) ∧
    (∀ i, i / 640 ≠ (s.video.line + 1) % 154 → FrameBuffer.byteAt s.crossLine.1.video.fb i = FrameBuffer.byteAt s.video.fb i)
end

