-- ==== Sys2Proof/Laws/Decode.lean ====
section
/-! SUPPORT. The decoder and the encoder (30_encoding.md). -/

namespace Sys2Proof

/-! ### Byte order -/

theorem word16_toNat (hi lo : Byte) : (word16 hi lo).toNat = hi.toNat * 256 + lo.toNat := by
  have h : lo.toNat < 2 ^ 8 := lo.isLt
  rw [word16, BitVec.toNat_append, ← Nat.shiftLeft_add_eq_or_of_lt h, Nat.shiftLeft_eq]

theorem loByte_toNat (w : Word) : (loByte w).toNat = w.toNat % 256 := by simp [loByte]

theorem hiByte_toNat (w : Word) : (hiByte w).toNat = w.toNat / 256 := by
  have h := w.isLt
  simp [hiByte, Nat.shiftRight_eq_div_pow]
  omega

@[simp] theorem word16_hiByte_loByte (w : Word) : word16 (hiByte w) (loByte w) = w := by
  apply BitVec.eq_of_toNat_eq
  rw [word16_toNat, loByte_toNat, hiByte_toNat]
  omega

@[simp] theorem loByte_word16 (hi lo : Byte) : loByte (word16 hi lo) = lo := by
  have h := lo.isLt
  apply BitVec.eq_of_toNat_eq
  rw [loByte_toNat, word16_toNat]
  omega

@[simp] theorem hiByte_word16 (hi lo : Byte) : hiByte (word16 hi lo) = hi := by
  have h := lo.isLt
  apply BitVec.eq_of_toNat_eq
  rw [hiByte_toNat, word16_toNat]
  omega

/-! ### The opcode map -/

/-- What holds of every entry of the map at its own place holds of every decoded instruction. -/
theorem decodeBytes_forall {P : Byte → Instr → Prop} (b1 b2 : Byte)
    (h : ∀ n : Nat, n < 256 → P (BitVec.ofNat 8 n) (decodeBytes (BitVec.ofNat 8 n) b1 b2)) (b0 : Byte) : P b0 (decodeBytes b0 b1 b2) := by
  have := h b0.toNat b0.isLt
  rwa [BitVec.ofNat_toNat, BitVec.setWidth_eq] at this

/-- The entry at a byte value is an instruction with that opcode byte: every byte value decodes, and to its own row (30_encoding.md R101,
R106). -/
theorem decodeBytes_opcode (b0 b1 b2 : Byte) : (decodeBytes b0 b1 b2).opcode = b0 := by
  refine decodeBytes_forall (P := fun b i => i.opcode = b) b1 b2 (fun n hn => ?_) b0
  interval_cases n <;> rfl

/-- The operand bytes of a decoded instruction are the bytes after the opcode, as many as its length asks for (30_encoding.md R100,
R103). -/
theorem operandBytes_decodeBytes (b0 b1 b2 : Byte) :
    (decodeBytes b0 b1 b2).operandBytes = [b1, b2].take ((decodeBytes b0 b1 b2).length - 1) := by
  refine decodeBytes_forall (P := fun b i => i.operandBytes = [b1, b2].take (i.length - 1)) b1 b2 (fun n hn => ?_) b0
  interval_cases n
  all_goals first
    | rfl
    | (show [loByte (word16 b2 b1), hiByte (word16 b2 b1)] = _; rw [loByte_word16, hiByte_word16]; rfl)

/-- The length depends on the opcode byte alone (30_encoding.md R107). -/
theorem length_decodeBytes (b0 b1 b2 c1 c2 : Byte) : (decodeBytes b0 b1 b2).length = (decodeBytes b0 c1 c2).length := by
  refine decodeBytes_forall (P := fun b i => i.length = (decodeBytes b c1 c2).length) b1 b2 (fun n hn => ?_) b0
  interval_cases n <;> rfl

/-- The opcode byte and the operand bytes give the instruction back, whatever bytes follow. -/
theorem decodeBytes_encode (i : Instr) (rest : List Byte) :
    decodeBytes i.opcode ((i.operandBytes ++ rest).getD 0 0) ((i.operandBytes ++ rest).getD 1 0) = i := by
  cases i
  case jp a => simp only [Instr.opcode]; exact congrArg Instr.jp (word16_hiByte_loByte a)
  case call a => simp only [Instr.opcode]; exact congrArg Instr.call (word16_hiByte_loByte a)
  case storeA a => simp only [Instr.opcode]; exact congrArg Instr.storeA (word16_hiByte_loByte a)
  case loadA a => simp only [Instr.opcode]; exact congrArg Instr.loadA (word16_hiByte_loByte a)
  all_goals (simp only [Instr.opcode]; rfl)

end Sys2Proof
end

