-- ==== Sys2Proof/Laws/State.lean ====
section
/-! SUPPORT. What each update of the state leaves in each field: the small lemmas of the updates of Machine/Ops.lean, so that no later
proof unfolds a record update. -/

namespace Sys2Proof.Machine

/-! ### `setPc` -/

@[simp] theorem State.setPc_cpu_a (s : State) (w : Word) : (s.setPc w).cpu.a = s.cpu.a := rfl
@[simp] theorem State.setPc_cpu_f (s : State) (w : Word) : (s.setPc w).cpu.f = s.cpu.f := rfl
@[simp] theorem State.setPc_cpu_b (s : State) (w : Word) : (s.setPc w).cpu.b = s.cpu.b := rfl
@[simp] theorem State.setPc_cpu_c (s : State) (w : Word) : (s.setPc w).cpu.c = s.cpu.c := rfl
@[simp] theorem State.setPc_cpu_d (s : State) (w : Word) : (s.setPc w).cpu.d = s.cpu.d := rfl
@[simp] theorem State.setPc_cpu_e (s : State) (w : Word) : (s.setPc w).cpu.e = s.cpu.e := rfl
@[simp] theorem State.setPc_cpu_h (s : State) (w : Word) : (s.setPc w).cpu.h = s.cpu.h := rfl
@[simp] theorem State.setPc_cpu_l (s : State) (w : Word) : (s.setPc w).cpu.l = s.cpu.l := rfl
@[simp] theorem State.setPc_cpu_sp (s : State) (w : Word) : (s.setPc w).cpu.sp = s.cpu.sp := rfl
@[simp] theorem State.setPc_cpu_pc (s : State) (w : Word) : (s.setPc w).cpu.pc = w := rfl
@[simp] theorem State.setPc_cpu_halted (s : State) (w : Word) : (s.setPc w).cpu.halted = s.cpu.halted := rfl
@[simp] theorem State.setPc_cpu_tcount (s : State) (w : Word) : (s.setPc w).cpu.tcount = s.cpu.tcount := rfl
@[simp] theorem State.setPc_mem (s : State) (w : Word) : (s.setPc w).mem = s.mem := rfl
@[simp] theorem State.setPc_video (s : State) (w : Word) : (s.setPc w).video = s.video := rfl
@[simp] theorem State.setPc_buttons (s : State) (w : Word) : (s.setPc w).buttons = s.buttons := rfl
@[simp] theorem State.setPc_frameCyc (s : State) (w : Word) : (s.setPc w).frameCyc = s.frameCyc := rfl

/-! ### `setSp` -/

@[simp] theorem State.setSp_cpu_a (s : State) (w : Word) : (s.setSp w).cpu.a = s.cpu.a := rfl
@[simp] theorem State.setSp_cpu_f (s : State) (w : Word) : (s.setSp w).cpu.f = s.cpu.f := rfl
@[simp] theorem State.setSp_cpu_b (s : State) (w : Word) : (s.setSp w).cpu.b = s.cpu.b := rfl
@[simp] theorem State.setSp_cpu_c (s : State) (w : Word) : (s.setSp w).cpu.c = s.cpu.c := rfl
@[simp] theorem State.setSp_cpu_d (s : State) (w : Word) : (s.setSp w).cpu.d = s.cpu.d := rfl
@[simp] theorem State.setSp_cpu_e (s : State) (w : Word) : (s.setSp w).cpu.e = s.cpu.e := rfl
@[simp] theorem State.setSp_cpu_h (s : State) (w : Word) : (s.setSp w).cpu.h = s.cpu.h := rfl
@[simp] theorem State.setSp_cpu_l (s : State) (w : Word) : (s.setSp w).cpu.l = s.cpu.l := rfl
@[simp] theorem State.setSp_cpu_sp (s : State) (w : Word) : (s.setSp w).cpu.sp = w := rfl
@[simp] theorem State.setSp_cpu_pc (s : State) (w : Word) : (s.setSp w).cpu.pc = s.cpu.pc := rfl
@[simp] theorem State.setSp_cpu_halted (s : State) (w : Word) : (s.setSp w).cpu.halted = s.cpu.halted := rfl
@[simp] theorem State.setSp_cpu_tcount (s : State) (w : Word) : (s.setSp w).cpu.tcount = s.cpu.tcount := rfl
@[simp] theorem State.setSp_mem (s : State) (w : Word) : (s.setSp w).mem = s.mem := rfl
@[simp] theorem State.setSp_video (s : State) (w : Word) : (s.setSp w).video = s.video := rfl
@[simp] theorem State.setSp_buttons (s : State) (w : Word) : (s.setSp w).buttons = s.buttons := rfl
@[simp] theorem State.setSp_frameCyc (s : State) (w : Word) : (s.setSp w).frameCyc = s.frameCyc := rfl

/-! ### `advance` -/

@[simp] theorem State.advance_cpu_a (s : State) (n : Nat) : (s.advance n).cpu.a = s.cpu.a := rfl
@[simp] theorem State.advance_cpu_f (s : State) (n : Nat) : (s.advance n).cpu.f = s.cpu.f := rfl
@[simp] theorem State.advance_cpu_b (s : State) (n : Nat) : (s.advance n).cpu.b = s.cpu.b := rfl
@[simp] theorem State.advance_cpu_c (s : State) (n : Nat) : (s.advance n).cpu.c = s.cpu.c := rfl
@[simp] theorem State.advance_cpu_d (s : State) (n : Nat) : (s.advance n).cpu.d = s.cpu.d := rfl
@[simp] theorem State.advance_cpu_e (s : State) (n : Nat) : (s.advance n).cpu.e = s.cpu.e := rfl
@[simp] theorem State.advance_cpu_h (s : State) (n : Nat) : (s.advance n).cpu.h = s.cpu.h := rfl
@[simp] theorem State.advance_cpu_l (s : State) (n : Nat) : (s.advance n).cpu.l = s.cpu.l := rfl
@[simp] theorem State.advance_cpu_sp (s : State) (n : Nat) : (s.advance n).cpu.sp = s.cpu.sp := rfl
@[simp] theorem State.advance_cpu_pc (s : State) (n : Nat) : (s.advance n).cpu.pc = s.cpu.pc + BitVec.ofNat 16 n := rfl
@[simp] theorem State.advance_cpu_halted (s : State) (n : Nat) : (s.advance n).cpu.halted = s.cpu.halted := rfl
@[simp] theorem State.advance_cpu_tcount (s : State) (n : Nat) : (s.advance n).cpu.tcount = s.cpu.tcount := rfl
@[simp] theorem State.advance_mem (s : State) (n : Nat) : (s.advance n).mem = s.mem := rfl
@[simp] theorem State.advance_video (s : State) (n : Nat) : (s.advance n).video = s.video := rfl
@[simp] theorem State.advance_buttons (s : State) (n : Nat) : (s.advance n).buttons = s.buttons := rfl
@[simp] theorem State.advance_frameCyc (s : State) (n : Nat) : (s.advance n).frameCyc = s.frameCyc := rfl

/-! ### `halt` -/

@[simp] theorem State.halt_cpu_a (s : State) : (s.halt).cpu.a = s.cpu.a := rfl
@[simp] theorem State.halt_cpu_f (s : State) : (s.halt).cpu.f = s.cpu.f := rfl
@[simp] theorem State.halt_cpu_b (s : State) : (s.halt).cpu.b = s.cpu.b := rfl
@[simp] theorem State.halt_cpu_c (s : State) : (s.halt).cpu.c = s.cpu.c := rfl
@[simp] theorem State.halt_cpu_d (s : State) : (s.halt).cpu.d = s.cpu.d := rfl
@[simp] theorem State.halt_cpu_e (s : State) : (s.halt).cpu.e = s.cpu.e := rfl
@[simp] theorem State.halt_cpu_h (s : State) : (s.halt).cpu.h = s.cpu.h := rfl
@[simp] theorem State.halt_cpu_l (s : State) : (s.halt).cpu.l = s.cpu.l := rfl
@[simp] theorem State.halt_cpu_sp (s : State) : (s.halt).cpu.sp = s.cpu.sp := rfl
@[simp] theorem State.halt_cpu_pc (s : State) : (s.halt).cpu.pc = s.cpu.pc := rfl
@[simp] theorem State.halt_cpu_halted (s : State) : (s.halt).cpu.halted = true := rfl
@[simp] theorem State.halt_cpu_tcount (s : State) : (s.halt).cpu.tcount = s.cpu.tcount := rfl
@[simp] theorem State.halt_mem (s : State) : (s.halt).mem = s.mem := rfl
@[simp] theorem State.halt_video (s : State) : (s.halt).video = s.video := rfl
@[simp] theorem State.halt_buttons (s : State) : (s.halt).buttons = s.buttons := rfl
@[simp] theorem State.halt_frameCyc (s : State) : (s.halt).frameCyc = s.frameCyc := rfl

/-! ### `charge` -/

@[simp] theorem State.charge_cpu_a (s : State) (c : Cycles) : (s.charge c).cpu.a = s.cpu.a := rfl
@[simp] theorem State.charge_cpu_f (s : State) (c : Cycles) : (s.charge c).cpu.f = s.cpu.f := rfl
@[simp] theorem State.charge_cpu_b (s : State) (c : Cycles) : (s.charge c).cpu.b = s.cpu.b := rfl
@[simp] theorem State.charge_cpu_c (s : State) (c : Cycles) : (s.charge c).cpu.c = s.cpu.c := rfl
@[simp] theorem State.charge_cpu_d (s : State) (c : Cycles) : (s.charge c).cpu.d = s.cpu.d := rfl
@[simp] theorem State.charge_cpu_e (s : State) (c : Cycles) : (s.charge c).cpu.e = s.cpu.e := rfl
@[simp] theorem State.charge_cpu_h (s : State) (c : Cycles) : (s.charge c).cpu.h = s.cpu.h := rfl
@[simp] theorem State.charge_cpu_l (s : State) (c : Cycles) : (s.charge c).cpu.l = s.cpu.l := rfl
@[simp] theorem State.charge_cpu_sp (s : State) (c : Cycles) : (s.charge c).cpu.sp = s.cpu.sp := rfl
@[simp] theorem State.charge_cpu_pc (s : State) (c : Cycles) : (s.charge c).cpu.pc = s.cpu.pc := rfl
@[simp] theorem State.charge_cpu_halted (s : State) (c : Cycles) : (s.charge c).cpu.halted = s.cpu.halted := rfl
@[simp] theorem State.charge_cpu_tcount (s : State) (c : Cycles) : (s.charge c).cpu.tcount = s.cpu.tcount + c.toNat := rfl
@[simp] theorem State.charge_mem (s : State) (c : Cycles) : (s.charge c).mem = s.mem := rfl
@[simp] theorem State.charge_video (s : State) (c : Cycles) : (s.charge c).video = s.video := rfl
@[simp] theorem State.charge_buttons (s : State) (c : Cycles) : (s.charge c).buttons = s.buttons := rfl
@[simp] theorem State.charge_frameCyc (s : State) (c : Cycles) : (s.charge c).frameCyc = s.frameCyc := rfl

/-! ### `setReg` -/

@[simp] theorem State.setReg_cpu_sp (s : State) (r : Reg8) (v : Byte) : (s.setReg r v).cpu.sp = s.cpu.sp := by
  cases r <;> rfl
@[simp] theorem State.setReg_cpu_pc (s : State) (r : Reg8) (v : Byte) : (s.setReg r v).cpu.pc = s.cpu.pc := by
  cases r <;> rfl
@[simp] theorem State.setReg_cpu_halted (s : State) (r : Reg8) (v : Byte) : (s.setReg r v).cpu.halted = s.cpu.halted := by
  cases r <;> rfl
@[simp] theorem State.setReg_cpu_tcount (s : State) (r : Reg8) (v : Byte) : (s.setReg r v).cpu.tcount = s.cpu.tcount := by
  cases r <;> rfl
@[simp] theorem State.setReg_mem (s : State) (r : Reg8) (v : Byte) : (s.setReg r v).mem = s.mem := by
  cases r <;> rfl
@[simp] theorem State.setReg_video (s : State) (r : Reg8) (v : Byte) : (s.setReg r v).video = s.video := by
  cases r <;> rfl
@[simp] theorem State.setReg_buttons (s : State) (r : Reg8) (v : Byte) : (s.setReg r v).buttons = s.buttons := by
  cases r <;> rfl
@[simp] theorem State.setReg_frameCyc (s : State) (r : Reg8) (v : Byte) : (s.setReg r v).frameCyc = s.frameCyc := by
  cases r <;> rfl

/-- Every register but the one written keeps its value (10_state.md R21). -/
theorem State.getReg_setReg_of_ne (s : State) {r r' : Reg8} (v : Byte) (h : r' ≠ r) : (s.setReg r v).getReg r' = s.getReg r' := by
  cases r <;> cases r' <;> first | rfl | exact absurd rfl h

/-- A register other than F holds what was written to it (10_state.md R21). -/
theorem State.getReg_setReg_self (s : State) {r : Reg8} (v : Byte) (h : r ≠ .f) : (s.setReg r v).getReg r = v := by
  cases r <;> first | rfl | exact absurd rfl h

/-- F holds the high nibble of what was written to it (10_state.md R27). -/
@[simp] theorem State.getReg_setReg_f (s : State) (v : Byte) : (s.setReg .f v).getReg .f = v &&& 0xF0 := rfl

/-! ### `busWrite`: only storage changes (20_memory.md R63, R74) -/

@[simp] theorem State.busWrite_cpu (s : State) (a : Word) (v : Byte) : (s.busWrite a v).cpu = s.cpu := rfl
@[simp] theorem State.busWrite_video (s : State) (a : Word) (v : Byte) : (s.busWrite a v).video = s.video := rfl
@[simp] theorem State.busWrite_buttons (s : State) (a : Word) (v : Byte) : (s.busWrite a v).buttons = s.buttons := rfl
@[simp] theorem State.busWrite_frameCyc (s : State) (a : Word) (v : Byte) : (s.busWrite a v).frameCyc = s.frameCyc := rfl
@[simp] theorem State.busWrite_mem (s : State) (a : Word) (v : Byte) : (s.busWrite a v).mem = s.mem.write a v := rfl

/-! ### `raiseIf`, `busLoadProgram` -/

@[simp] theorem State.raiseIf_cpu (s : State) (m : Byte) : (s.raiseIf m).cpu = s.cpu := State.busWrite_cpu ..
@[simp] theorem State.raiseIf_video (s : State) (m : Byte) : (s.raiseIf m).video = s.video := State.busWrite_video ..
@[simp] theorem State.raiseIf_buttons (s : State) (m : Byte) : (s.raiseIf m).buttons = s.buttons := State.busWrite_buttons ..
@[simp] theorem State.raiseIf_frameCyc (s : State) (m : Byte) : (s.raiseIf m).frameCyc = s.frameCyc := State.busWrite_frameCyc ..
@[simp] theorem State.busLoadProgram_cpu (s : State) (img : List Byte) : (s.busLoadProgram img).cpu = s.cpu := rfl
@[simp] theorem State.busLoadProgram_video (s : State) (img : List Byte) : (s.busLoadProgram img).video = s.video := rfl
@[simp] theorem State.busLoadProgram_buttons (s : State) (img : List Byte) : (s.busLoadProgram img).buttons = s.buttons := rfl
@[simp] theorem State.busLoadProgram_frameCyc (s : State) (img : List Byte) : (s.busLoadProgram img).frameCyc = s.frameCyc := rfl

/-! ### Reads look at storage only -/

/-- The byte at an address depends on storage alone (20_memory.md R62, R73). -/
theorem State.busRead_congr {s t : State} (h : s.mem = t.mem) (a : Word) : s.busRead a = t.busRead a := by
  simp only [State.busRead, h]

@[simp] theorem State.busRead_setPc (s : State) (w : Word) (a : Word) : (s.setPc w).busRead a = s.busRead a := rfl
@[simp] theorem State.busRead_setSp (s : State) (w : Word) (a : Word) : (s.setSp w).busRead a = s.busRead a := rfl
@[simp] theorem State.busRead_advance (s : State) (n : Nat) (a : Word) : (s.advance n).busRead a = s.busRead a := rfl
@[simp] theorem State.busRead_halt (s : State) (a : Word) : (s.halt).busRead a = s.busRead a := rfl
@[simp] theorem State.busRead_charge (s : State) (c : Cycles) (a : Word) : (s.charge c).busRead a = s.busRead a := rfl
@[simp] theorem State.busRead_setReg (s : State) (r : Reg8) (v : Byte) (a : Word) : (s.setReg r v).busRead a = s.busRead a :=
  State.busRead_congr (State.setReg_mem ..) a

end Sys2Proof.Machine
end

