-- ==== Sys2Proof/Laws/Memory.lean ====
section
/-! SUPPORT. Storage and the bus: read after write, the canonical form, routing (20_memory.md R60 to R75). -/

namespace Sys2Proof.Machine

/-! ### The storage list -/

theorem Memory.get_set_of_ne (m : Memory) {k k' : Nat} (v : Byte) (h : k' ≠ k) : (Memory.set m k v).get k' = Memory.get m k' := by
  induction m with
  | nil => by_cases hv : v = memInit <;> simp [Memory.set, Memory.get, hv, h]
  | cons c t ih =>
    obtain ⟨k₀, v₀⟩ := c
    by_cases h₁ : k < k₀
    · by_cases hv : v = memInit <;> simp [Memory.set, Memory.get, hv, h₁, h]
    · by_cases h₂ : k = k₀
      · subst h₂; by_cases hv : v = memInit <;> simp [Memory.set, Memory.get, hv, h]
      · simp [Memory.set, Memory.get, h₁, h₂, ih]

theorem Memory.get_of_risingFrom {m : Memory} {lo k : Nat} (hm : Memory.risingFrom lo m = true) (h : k < lo) : m.get k = memInit := by
  induction m generalizing lo with
  | nil => rfl
  | cons c t ih =>
    obtain ⟨k₀, v₀⟩ := c
    simp only [Memory.risingFrom, Bool.and_eq_true, decide_eq_true_eq] at hm
    have hne : k ≠ k₀ := by omega
    simp [Memory.get, hne, ih hm.2 (by omega)]

theorem Memory.get_set_self_of_risingFrom {m : Memory} {lo : Nat} (hm : Memory.risingFrom lo m = true) (k : Nat) (v : Byte) :
    (Memory.set m k v).get k = v := by
  induction m generalizing lo with
  | nil => by_cases hv : v = memInit <;> simp [Memory.set, Memory.get, hv]
  | cons c t ih =>
    obtain ⟨k₀, v₀⟩ := c
    simp only [Memory.risingFrom, Bool.and_eq_true, decide_eq_true_eq] at hm
    by_cases h₁ : k < k₀
    · by_cases hv : v = memInit
      · have hne : k ≠ k₀ := by omega
        simp [Memory.set, Memory.get, hv, h₁, hne, Memory.get_of_risingFrom hm.2 (show k < k₀ + 1 by omega)]
      · simp [Memory.set, Memory.get, hv, h₁]
    · by_cases h₂ : k = k₀
      · subst h₂
        by_cases hv : v = memInit
        · simp [Memory.set, hv, Memory.get_of_risingFrom hm.2 (show k < k + 1 by omega)]
        · simp [Memory.set, Memory.get, hv]
      · simp [Memory.set, Memory.get, h₁, h₂, ih hm.2]

/-- A byte reads as it was last written, in canonical storage. -/
theorem Memory.get_set_self {m : Memory} (hm : m.wf = true) (k : Nat) (v : Byte) : (Memory.set m k v).get k = v :=
  Memory.get_set_self_of_risingFrom hm k v

theorem Memory.risingFrom_mono {m : Memory} {lo lo' : Nat} (hm : Memory.risingFrom lo m = true) (h : lo' ≤ lo) :
    Memory.risingFrom lo' m = true := by
  cases m with
  | nil => rfl
  | cons c t =>
    simp only [Memory.risingFrom, Bool.and_eq_true, decide_eq_true_eq] at hm ⊢
    exact ⟨⟨⟨by omega, hm.1.1.2⟩, hm.1.2⟩, hm.2⟩

theorem Memory.risingFrom_set {m : Memory} {lo k : Nat} (hm : Memory.risingFrom lo m = true) (hk : isCellKey k = true) (hlo : lo ≤ k)
    (v : Byte) : Memory.risingFrom lo (Memory.set m k v) = true := by
  induction m generalizing lo with
  | nil => by_cases hv : v = memInit <;> simp [Memory.set, Memory.risingFrom, hv, hk, hlo]
  | cons c t ih =>
    obtain ⟨k₀, v₀⟩ := c
    have hm' := hm
    simp only [Memory.risingFrom, Bool.and_eq_true, decide_eq_true_eq] at hm
    obtain ⟨⟨⟨h₀, hk₀⟩, hv₀⟩, ht⟩ := hm
    by_cases h₁ : k < k₀
    · by_cases hv : v = memInit
      · simpa [Memory.set, hv, h₁] using hm'
      · simp [Memory.set, Memory.risingFrom, hv, h₁, hk, hlo, hk₀, hv₀, ht]
    · by_cases h₂ : k = k₀
      · subst h₂
        by_cases hv : v = memInit
        · simpa [Memory.set, hv] using Memory.risingFrom_mono ht (by omega)
        · simp [Memory.set, Memory.risingFrom, hv, hk, hlo, ht]
      · simp only [Memory.set, h₁, h₂, if_false, Memory.risingFrom, Bool.and_eq_true, decide_eq_true_eq]
        exact ⟨⟨⟨h₀, hk₀⟩, hv₀⟩, ih ht (by omega)⟩

/-- A store keeps the canonical form. -/
theorem Memory.wf_set {m : Memory} (hm : m.wf = true) {k : Nat} (hk : isCellKey k = true) (v : Byte) : (Memory.set m k v).wf = true :=
  Memory.risingFrom_set hm hk (Nat.zero_le k) v

/-! ### Loading an image -/

theorem get_imageCells_append (img : List Byte) (n : Nat) (m : Memory) {k : Nat} (h : n + img.length ≤ k) :
    Memory.get (imageCells n img ++ m) k = Memory.get m k := by
  induction img generalizing n with
  | nil => rfl
  | cons v t ih =>
    have h' : n + 1 + t.length ≤ k := by simpa [Nat.add_assoc, Nat.add_comm 1] using h
    by_cases hv : v = memInit
    · simpa [imageCells, hv] using ih (n + 1) h'
    · have hne : k ≠ n := by simp at h; omega
      simpa [imageCells, hv, Memory.get, hne] using ih (n + 1) h'

theorem get_imageCells_append_of_lt (img : List Byte) (n : Nat) {m : Memory} {k : Nat} (hm : Memory.get m k = memInit) (h : n ≤ k) :
    Memory.get (imageCells n img ++ m) k = img.getD (k - n) memInit := by
  induction img generalizing n with
  | nil => simpa [imageCells] using hm
  | cons v t ih =>
    have hn : k = n ∨ n + 1 ≤ k := by omega
    rcases hn with rfl | hn
    · by_cases hv : v = memInit
      · subst hv
        simp only [imageCells, if_true, Nat.sub_self, List.getD_cons_zero]
        by_cases ht : k + 1 + t.length ≤ k
        · omega
        · clear ih ht
          have key : ∀ (t : List Byte) (j : Nat), k < j → Memory.get (imageCells j t ++ m) k = memInit := by
            intro t
            induction t with
            | nil => intro j _; simpa [imageCells] using hm
            | cons w t ih =>
              intro j hj
              by_cases hw : w = memInit
              · simpa [imageCells, hw] using ih (j + 1) (by omega)
              · have hne : k ≠ j := by omega
                simpa [imageCells, hw, Memory.get, hne] using ih (j + 1) (by omega)
          exact key t (k + 1) (by omega)
      · simp [imageCells, hv, Memory.get]
    · have hk : k - n = (k - (n + 1)) + 1 := by omega
      by_cases hv : v = memInit
      · simp only [imageCells, hv, if_true, hk, List.getD_cons_succ]
        exact ih (n + 1) hn
      · have hne : k ≠ n := by omega
        simp only [imageCells, hv, if_false, List.cons_append, Memory.get, hne, hk, List.getD_cons_succ]
        exact ih (n + 1) hn

theorem get_filter_of_lt (m : Memory) (b : Nat) {k : Nat} (h : k < b) : Memory.get (m.filter fun c => decide (b ≤ c.1)) k = memInit := by
  induction m with
  | nil => rfl
  | cons c t ih =>
    obtain ⟨k₀, v₀⟩ := c
    by_cases hb : b ≤ k₀
    · have hne : k ≠ k₀ := by omega
      simpa [List.filter, hb, Memory.get, hne] using ih
    · simpa [List.filter, hb] using ih

theorem get_filter_of_le (m : Memory) (b : Nat) {k : Nat} (h : b ≤ k) :
    Memory.get (m.filter fun c => decide (b ≤ c.1)) k = Memory.get m k := by
  induction m with
  | nil => rfl
  | cons c t ih =>
    obtain ⟨k₀, v₀⟩ := c
    by_cases hb : b ≤ k₀
    · by_cases hk : k = k₀
      · simp [List.filter, hb, Memory.get, hk]
      · simpa [List.filter, hb, Memory.get, hk] using ih
    · have hne : k ≠ k₀ := by omega
      simpa [List.filter, hb, Memory.get, hne] using ih

theorem risingFrom_filter {m : Memory} {lo : Nat} (hm : Memory.risingFrom lo m = true) (b : Nat) :
    Memory.risingFrom (max lo b) (m.filter fun c => decide (b ≤ c.1)) = true := by
  induction m generalizing lo with
  | nil => rfl
  | cons c t ih =>
    obtain ⟨k₀, v₀⟩ := c
    simp only [Memory.risingFrom, Bool.and_eq_true, decide_eq_true_eq] at hm
    by_cases hb : b ≤ k₀
    · have h₁ := ih hm.2
      have h₂ : max (k₀ + 1) b = k₀ + 1 := by omega
      rw [h₂] at h₁
      simp only [List.filter, hb, decide_true, Memory.risingFrom, Bool.and_eq_true, decide_eq_true_eq]
      exact ⟨⟨⟨by omega, hm.1.1.2⟩, hm.1.2⟩, h₁⟩
    · simp only [List.filter, hb, decide_false]
      exact Memory.risingFrom_mono (ih hm.2) (by omega)

theorem risingFrom_imageCells_append (img : List Byte) (n : Nat) {m : Memory} (hm : Memory.risingFrom (n + img.length) m = true)
    (h : n + img.length ≤ 0xE000) : Memory.risingFrom n (imageCells n img ++ m) = true := by
  induction img generalizing n with
  | nil => simpa [imageCells] using hm
  | cons v t ih =>
    simp only [List.length_cons] at hm h
    have h₁ := ih (n + 1) (by rwa [show n + 1 + t.length = n + (t.length + 1) by omega]) (by omega)
    by_cases hv : v = memInit
    · simpa [imageCells, hv] using Memory.risingFrom_mono h₁ (by omega)
    · have hn : n < 0xE000 := by omega
      simp [imageCells, hv, Memory.risingFrom, isCellKey, hn, h₁]

/-- Loading a program keeps the canonical form. -/
theorem State.wf_busLoadProgram {s : State} (hm : s.mem.wf = true) (img : List Byte) : (s.busLoadProgram img).mem.wf = true := by
  have h : (img.take Config.romBytes).length ≤ Config.romBytes := by simp
  refine risingFrom_imageCells_append _ 0 (Memory.risingFrom_mono (risingFrom_filter hm Config.romBytes) ?_) ?_ <;>
    simp only [Config.romBytes] at h ⊢ <;> omega

/-! ### Routing -/

/-- Every address that has storage has a storage key (20_memory.md R62). -/
theorem isCellKey_of_cellKey {a : Word} {k : Nat} (h : cellKey a = some k) : isCellKey k = true := by
  have ha := a.isLt
  simp only [cellKey, route] at h
  repeat' split at h
  all_goals (simp only [Option.map_some, Option.map_none, Option.some.injEq, reduceCtorEq, Region.base] at h)
  all_goals (subst h; simp only [isCellKey, Bool.or_eq_true, Bool.and_eq_true, decide_eq_true_eq]; omega)

/-- The storage key of an address in numbers: the address itself, or 0x2000 less in the mirror (20_memory.md R62, R65). -/
theorem cellKey_eq_some_iff (a : Word) (k : Nat) : cellKey a = some k ↔
    (a.toNat < 0xE000 ∨ 0xFE00 ≤ a.toNat ∧ a.toNat < 0xFEA0 ∨ 0xFF00 ≤ a.toNat) ∧ k = a.toNat ∨
    0xE000 ≤ a.toNat ∧ a.toNat < 0xFE00 ∧ k = a.toNat - 0x2000 := by
  have ha := a.isLt
  simp only [cellKey, route]
  repeat' split
  all_goals simp only [Option.map_some, Option.map_none, Option.some.injEq, reduceCtorEq, Region.base, false_iff]
  all_goals omega

/-- The unusable range is the addresses with no storage (20_memory.md R62, R66). -/
theorem cellKey_eq_none_iff (a : Word) : cellKey a = none ↔ 0xFEA0 ≤ a.toNat ∧ a.toNat < 0xFF00 := by
  have ha := a.isLt
  simp only [cellKey, route]
  repeat' split
  all_goals (simp; omega)

theorem route_eq_none_iff (a : Word) : route a = none ↔ 0xFEA0 ≤ a.toNat ∧ a.toNat < 0xFF00 := by
  rw [← cellKey_eq_none_iff]; simp [cellKey]

/-- The index that routing gives lies inside the region (20_memory.md R62). -/
theorem route_index_lt {a : Word} {r : Region} {i : Nat} (h : route a = some (r, i)) : i < r.size := by
  have ha := a.isLt
  simp only [route] at h
  repeat' split at h
  all_goals simp only [Option.some.injEq, Prod.mk.injEq, reduceCtorEq] at h
  all_goals obtain ⟨rfl, rfl⟩ := h; simp only [Region.size]; omega

/-- The regions do not overlap (10_state.md R31): a key tells its region and index. -/
theorem Region.base_add_inj {r r' : Region} {i i' : Nat} (hi : i < r.size) (hi' : i' < r'.size) (h : r.base + i = r'.base + i') :
    r = r' ∧ i = i' := by
  cases r <;> cases r' <;> simp only [Region.base, Region.size] at hi hi' h <;> first | (exact ⟨rfl, by omega⟩) | omega

/-- Where two addresses have the same storage key, they are the same routed byte. -/
theorem cellKey_eq_iff (a b : Word) : cellKey a = cellKey b ↔ route a = route b := by
  refine ⟨fun h => ?_, fun h => by simp [cellKey, h]⟩
  cases ha : route a with
  | none => cases hb : route b <;> simp_all [cellKey]
  | some p =>
    cases hb : route b with
    | none => simp_all [cellKey]
    | some q =>
      have he : p.1.base + p.2 = q.1.base + q.2 := by simpa [cellKey, ha, hb] using h
      obtain ⟨h₁, h₂⟩ := Region.base_add_inj (route_index_lt ha) (route_index_lt hb) he
      rw [Prod.ext h₁ h₂]

/-! ### The bus -/

/-- A read is the routed byte, or 0xFF in the unusable range (20_memory.md R62). -/
theorem State.busRead_of_cellKey {s : State} {a : Word} {k : Nat} (h : cellKey a = some k) : s.busRead a = s.mem.get k := by
  simp [State.busRead, Memory.read, h]

/-- A read of an address whose key lies in a region is that region's byte (20_memory.md R62). -/
theorem State.busRead_eq_regionByte (s : State) {a : Word} {r : Region} {i : Nat} (h : cellKey a = some (r.base + i)) :
    s.busRead a = s.regionByte r i := State.busRead_of_cellKey h

theorem State.busRead_of_none {s : State} {a : Word} (h : cellKey a = none) : s.busRead a = unusableRead := by
  simp [State.busRead, Memory.read, h]

theorem State.busWrite_of_none {s : State} {a : Word} (h : cellKey a = none) (v : Byte) : s.busWrite a v = s := by
  simp [State.busWrite, Memory.write, h]

theorem State.busWrite_mem_of_cellKey {s : State} {a : Word} {k : Nat} (h : cellKey a = some k) (v : Byte) :
    (s.busWrite a v).mem = s.mem.set k v := by
  simp [Memory.write, h]

/-- A store leaves every other byte alone (20_memory.md R63). -/
theorem State.busRead_busWrite_of_ne (s : State) {a b : Word} (v : Byte) (h : cellKey b ≠ cellKey a) :
    (s.busWrite a v).busRead b = s.busRead b := by
  cases ha : cellKey a with
  | none => rw [State.busWrite_of_none ha]
  | some k =>
    cases hb : cellKey b with
    | none => rw [State.busRead_of_none hb, State.busRead_of_none hb]
    | some k' =>
      have hne : k' ≠ k := fun e => h (by rw [ha, hb, e])
      rw [State.busRead_of_cellKey hb, State.busRead_of_cellKey hb, State.busWrite_mem_of_cellKey ha, Memory.get_set_of_ne _ _ hne]

/-- A stored byte reads back, at every address that reaches it (20_memory.md R63). -/
theorem State.busRead_busWrite_self {s : State} (hm : s.mem.wf = true) {a b : Word} (v : Byte) (h : cellKey b = cellKey a)
    (ha : cellKey a ≠ none) : (s.busWrite a v).busRead b = v := by
  obtain ⟨k, hk⟩ := Option.ne_none_iff_exists'.1 ha
  rw [State.busRead_of_cellKey (h.trans hk), State.busWrite_mem_of_cellKey hk, Memory.get_set_self hm]

/-- A store keeps the canonical form. -/
theorem State.wf_busWrite {s : State} (hm : s.mem.wf = true) (a : Word) (v : Byte) : (s.busWrite a v).mem.wf = true := by
  cases ha : cellKey a with
  | none => rwa [State.busWrite_of_none ha]
  | some k => rw [State.busWrite_mem_of_cellKey ha]; exact Memory.wf_set hm (isCellKey_of_cellKey ha) v

/-- `raiseIf` keeps the canonical form. -/
theorem State.wf_raiseIf {s : State} (hm : s.mem.wf = true) (mask : Byte) : (s.raiseIf mask).mem.wf = true := State.wf_busWrite hm _ _

/-- The whole of a program load, byte by byte (20_memory.md R75). -/
theorem State.busRead_busLoadProgram (s : State) (img : List Byte) (a : Word) :
    (s.busLoadProgram img).busRead a = if a.toNat < Config.romBytes then img.getD a.toNat memInit else s.busRead a := by
  have ha := a.isLt
  have hlen : (img.take Config.romBytes).length ≤ Config.romBytes := by simp
  by_cases h : a.toNat < Config.romBytes
  · have hk : cellKey a = some a.toNat := by
      have : a.toNat < 0x8000 := by simpa [Config.romBytes] using h
      simp [cellKey, route, this, Region.base]
    rw [if_pos h, State.busRead_of_cellKey hk]
    simp only [State.busLoadProgram]
    rw [get_imageCells_append_of_lt _ 0 (get_filter_of_lt _ _ h) (Nat.zero_le _)]
    simp [List.getD_eq_getElem?_getD, h]
  · rw [if_neg h]
    cases hk : cellKey a with
    | none => rw [State.busRead_of_none hk, State.busRead_of_none hk]
    | some k =>
      have hle : Config.romBytes ≤ k := by
        simp only [cellKey, route] at hk
        simp only [Config.romBytes] at h ⊢
        repeat' split at hk
        all_goals simp [Region.base] at hk
        all_goals omega
      rw [State.busRead_of_cellKey hk, State.busRead_of_cellKey hk]
      simp only [State.busLoadProgram]
      rw [get_imageCells_append _ 0 _ (by omega), get_filter_of_le _ _ hle]

end Sys2Proof.Machine
end

