-- ==== Sys2Proof/Laws/Devices.lean ====
section
/-! SUPPORT. The InputLatch and the VideoUnit: what each transaction leaves alone, and the shape of the scanline loop. -/

namespace Sys2Proof.Machine

/-! ### I/O bytes have one address each -/

/-- An I/O byte is reached by its own address only (20_memory.md R62). -/
theorem eq_of_cellKey_eq_io {a b : Word} (ha : 0xFF00 ≤ a.toNat) (h : cellKey b = cellKey a) : b = a := by
  have h₁ := a.isLt
  have h₂ := b.isLt
  have hk : cellKey a = some a.toNat := (cellKey_eq_some_iff a _).2 (.inl ⟨.inr (.inr ha), rfl⟩)
  have hb := (cellKey_eq_some_iff b _).1 (h.trans hk)
  apply BitVec.eq_of_toNat_eq
  omega

/-- A store to an I/O byte leaves every other address alone. -/
theorem State.busRead_busWrite_io (s : State) {a b : Word} (ha : 0xFF00 ≤ a.toNat) (v : Byte) (h : b ≠ a) :
    (s.busWrite a v).busRead b = s.busRead b :=
  State.busRead_busWrite_of_ne s v fun he => h (eq_of_cellKey_eq_io ha he)

/-- A store to an I/O byte reads back. -/
theorem State.busRead_busWrite_io_self {s : State} (hm : s.mem.wf = true) {a : Word} (ha : 0xFF00 ≤ a.toNat) (v : Byte) :
    (s.busWrite a v).busRead a = v :=
  State.busRead_busWrite_self hm v rfl fun hn => by
    have := (cellKey_eq_none_iff a).1 hn
    omega

/-! ### The InputLatch -/

@[simp] theorem State.joyUpdate_cpu (s : State) : s.joyUpdate.cpu = s.cpu := State.busWrite_cpu ..
@[simp] theorem State.joyUpdate_video (s : State) : s.joyUpdate.video = s.video := State.busWrite_video ..
@[simp] theorem State.joyUpdate_buttons (s : State) : s.joyUpdate.buttons = s.buttons := State.busWrite_buttons ..
@[simp] theorem State.joyUpdate_frameCyc (s : State) : s.joyUpdate.frameCyc = s.frameCyc := State.busWrite_frameCyc ..

theorem State.wf_joyUpdate {s : State} (hm : s.mem.wf = true) : s.joyUpdate.mem.wf = true := State.wf_busWrite hm _ _

/-- An update writes JOYP and no other byte (51_input_latch.md R204). -/
theorem State.busRead_joyUpdate_of_ne (s : State) {a : Word} (h : a ≠ joypAddr) : s.joyUpdate.busRead a = s.busRead a :=
  State.busRead_busWrite_io s (by decide) _ h

/-- Four active-low lines, in full (51_input_latch.md R203). -/
theorem activeLow_lines (b0 b1 b2 b3 : Bool) :
    (activeLow b0 b1 b2 b3)[0] = !b0 ∧ (activeLow b0 b1 b2 b3)[1] = !b1 ∧
    (activeLow b0 b1 b2 b3)[2] = !b2 ∧ (activeLow b0 b1 b2 b3)[3] = !b3 ∧
    activeLow b0 b1 b2 b3 &&& 0x0F = activeLow b0 b1 b2 b3 ∧ activeLow b0 b1 b2 b3 &&& 0xF0 = 0 := by
  revert b0 b1 b2 b3
  decide

@[simp] theorem Buttons.get_set_self (b : Buttons) (n : Button) (p : Bool) : (b.set n p).get n = p := by cases n <;> rfl

theorem Buttons.get_set_of_ne (b : Buttons) {n m : Button} (p : Bool) (h : m ≠ n) : (b.set n p).get m = b.get m := by
  cases n <;> cases m <;> first | rfl | exact absurd rfl h

/-! ### The framebuffer -/

@[simp] theorem FrameBuffer.row_setRow_self (fb : FrameBuffer) (y : Nat) (r : List Colour) :
    FrameBuffer.row (FrameBuffer.setRow fb y r) y = some r := by
  induction fb with
  | nil => simp [FrameBuffer.setRow, FrameBuffer.row]
  | cons c t ih =>
    obtain ⟨y₀, r₀⟩ := c
    by_cases h₁ : y < y₀
    · simp [FrameBuffer.setRow, FrameBuffer.row, h₁]
    · by_cases h₂ : y = y₀
      · simp [FrameBuffer.setRow, FrameBuffer.row, h₂]
      · simp [FrameBuffer.setRow, FrameBuffer.row, h₁, h₂, ih]

theorem FrameBuffer.row_setRow_of_ne (fb : FrameBuffer) {y y' : Nat} (r : List Colour) (h : y' ≠ y) :
    FrameBuffer.row (FrameBuffer.setRow fb y r) y' = FrameBuffer.row fb y' := by
  induction fb with
  | nil => simp [FrameBuffer.setRow, FrameBuffer.row, h]
  | cons c t ih =>
    obtain ⟨y₀, r₀⟩ := c
    by_cases h₁ : y < y₀
    · simp [FrameBuffer.setRow, FrameBuffer.row, h₁, h]
    · by_cases h₂ : y = y₀
      · subst h₂; simp [FrameBuffer.setRow, FrameBuffer.row, h]
      · simp [FrameBuffer.setRow, FrameBuffer.row, h₁, h₂, ih]

theorem FrameBuffer.risingFrom_mono {fb : FrameBuffer} {lo lo' : Nat} (hf : FrameBuffer.risingFrom lo fb = true) (h : lo' ≤ lo) :
    FrameBuffer.risingFrom lo' fb = true := by
  cases fb with
  | nil => rfl
  | cons c t =>
    simp only [FrameBuffer.risingFrom, Bool.and_eq_true, decide_eq_true_eq] at hf ⊢
    exact ⟨⟨⟨by omega, hf.1.1.2⟩, hf.1.2⟩, hf.2⟩

theorem FrameBuffer.risingFrom_setRow {fb : FrameBuffer} {lo y : Nat} {r : List Colour} (hf : FrameBuffer.risingFrom lo fb = true)
    (hy : y < Config.vblankLine) (hr : r.length = Config.fbWidth) (hlo : lo ≤ y) :
    FrameBuffer.risingFrom lo (FrameBuffer.setRow fb y r) = true := by
  induction fb generalizing lo with
  | nil => simp [FrameBuffer.setRow, FrameBuffer.risingFrom, hy, hr, hlo]
  | cons c t ih =>
    obtain ⟨y₀, r₀⟩ := c
    simp only [FrameBuffer.risingFrom, Bool.and_eq_true, decide_eq_true_eq] at hf
    obtain ⟨⟨⟨h₀, hy₀⟩, hr₀⟩, ht⟩ := hf
    by_cases h₁ : y < y₀
    · simp only [FrameBuffer.setRow, if_pos h₁, FrameBuffer.risingFrom, Bool.and_eq_true, decide_eq_true_eq]
      exact ⟨⟨⟨hlo, hy⟩, hr⟩, ⟨⟨by omega, hy₀⟩, hr₀⟩, ht⟩
    · by_cases h₂ : y = y₀
      · subst h₂
        simp only [FrameBuffer.setRow, h₁, if_false, if_true, FrameBuffer.risingFrom, Bool.and_eq_true, decide_eq_true_eq]
        exact ⟨⟨⟨hlo, hy⟩, hr⟩, ht⟩
      · simp only [FrameBuffer.setRow, h₁, h₂, if_false, FrameBuffer.risingFrom, Bool.and_eq_true, decide_eq_true_eq]
        exact ⟨⟨⟨h₀, hy₀⟩, hr₀⟩, ih ht (by omega)⟩

/-- Rendering a line of the display keeps the canonical form. -/
theorem FrameBuffer.wf_setRow {fb : FrameBuffer} {y : Nat} {r : List Colour} (hf : FrameBuffer.wf fb = true)
    (hy : y < Config.vblankLine) (hr : r.length = Config.fbWidth) : FrameBuffer.wf (FrameBuffer.setRow fb y r) = true :=
  FrameBuffer.risingFrom_setRow hf hy hr (Nat.zero_le y)

@[simp] theorem State.renderedRow_length (s : State) (y : Nat) : (s.renderedRow y).length = Config.fbWidth := by simp [State.renderedRow]

@[simp] theorem FrameBuffer.copy_length (fb : FrameBuffer) : (FrameBuffer.copy fb).length = Config.fbBytes := by simp [FrameBuffer.copy]

/-! ### Updates of the VideoUnit -/

@[simp] theorem State.setVideo_video (s : State) (v : Video) : (s.setVideo v).video = v := rfl
@[simp] theorem State.setVideo_cpu (s : State) (v : Video) : (s.setVideo v).cpu = s.cpu := rfl
@[simp] theorem State.setVideo_mem (s : State) (v : Video) : (s.setVideo v).mem = s.mem := rfl
@[simp] theorem State.setVideo_buttons (s : State) (v : Video) : (s.setVideo v).buttons = s.buttons := rfl
@[simp] theorem State.setVideo_frameCyc (s : State) (v : Video) : (s.setVideo v).frameCyc = s.frameCyc := rfl
@[simp] theorem State.busRead_setVideo (s : State) (v : Video) (a : Word) : (s.setVideo v).busRead a = s.busRead a :=
  State.busRead_congr rfl a

/-! ### Rendering and crossing a scanline -/

/-- Rendering changes nothing but the framebuffer (50_video_unit.md R188). -/
@[simp] theorem State.renderScanline_cpu (s : State) : s.renderScanline.cpu = s.cpu := by unfold State.renderScanline; split <;> rfl
@[simp] theorem State.renderScanline_mem (s : State) : s.renderScanline.mem = s.mem := by unfold State.renderScanline; split <;> rfl
@[simp] theorem State.renderScanline_buttons (s : State) : s.renderScanline.buttons = s.buttons := by
  unfold State.renderScanline; split <;> rfl
@[simp] theorem State.renderScanline_frameCyc (s : State) : s.renderScanline.frameCyc = s.frameCyc := by
  unfold State.renderScanline; split <;> rfl
@[simp] theorem State.renderScanline_acc (s : State) : s.renderScanline.video.acc = s.video.acc := by
  unfold State.renderScanline; split <;> rfl
@[simp] theorem State.renderScanline_line (s : State) : s.renderScanline.video.line = s.video.line := by
  unfold State.renderScanline; split <;> rfl

@[simp] theorem State.nextLine_cpu (s : State) : s.nextLine.cpu = s.cpu := by simp only [State.nextLine, State.busWrite_cpu, State.setVideo_cpu]
@[simp] theorem State.nextLine_buttons (s : State) : s.nextLine.buttons = s.buttons := by simp only [State.nextLine, State.busWrite_buttons, State.setVideo_buttons]
@[simp] theorem State.nextLine_frameCyc (s : State) : s.nextLine.frameCyc = s.frameCyc := by simp only [State.nextLine, State.busWrite_frameCyc, State.setVideo_frameCyc]
@[simp] theorem State.nextLine_video (s : State) : s.nextLine.video =
    { s.video with acc := s.video.acc - Config.scanlineCycles, line := (s.video.line + 1) % Config.linesPerFrame } := by
  simp only [State.nextLine, State.busWrite_video, State.setVideo_video]

theorem State.wf_nextLine {s : State} (hm : s.mem.wf = true) : s.nextLine.mem.wf = true := by
  unfold State.nextLine
  exact State.wf_busWrite (by simpa using hm) _ _

theorem State.busRead_nextLine_of_ne (s : State) {a : Word} (h : a ≠ lyAddr) : s.nextLine.busRead a = s.busRead a := by
  unfold State.nextLine
  rw [State.busRead_busWrite_io _ (by decide) _ h, State.busRead_setVideo]

/-- A crossing, once: the line advances, and then one of three things happens (50_video_unit.md R172). -/
theorem State.crossLine_cases (s : State) :
    ((s.video.line + 1) % Config.linesPerFrame < Config.vblankLine ∧ s.crossLine = (s.nextLine.renderScanline, false)) ∨
    ((s.video.line + 1) % Config.linesPerFrame = Config.vblankLine ∧ s.crossLine = (s.nextLine.raiseIf ifVblankMask, true)) ∨
    (Config.vblankLine < (s.video.line + 1) % Config.linesPerFrame ∧ s.crossLine = (s.nextLine, false)) := by
  have hl : s.nextLine.video.line = (s.video.line + 1) % Config.linesPerFrame := by rw [State.nextLine_video]
  rw [← hl, State.crossLine]
  by_cases h₁ : s.nextLine.video.line < Config.vblankLine
  · exact .inl ⟨h₁, by simp only [if_pos h₁]⟩
  · by_cases h₂ : s.nextLine.video.line = Config.vblankLine
    · exact .inr (.inl ⟨h₂, by simp only [if_neg h₁, if_pos h₂]⟩)
    · exact .inr (.inr ⟨by omega, by simp only [if_neg h₁, if_neg h₂]⟩)

@[simp] theorem State.crossLine_cpu (s : State) : s.crossLine.1.cpu = s.cpu := by
  rcases s.crossLine_cases with ⟨-, h⟩ | ⟨-, h⟩ | ⟨-, h⟩ <;> simp [h]
@[simp] theorem State.crossLine_buttons (s : State) : s.crossLine.1.buttons = s.buttons := by
  rcases s.crossLine_cases with ⟨-, h⟩ | ⟨-, h⟩ | ⟨-, h⟩ <;> simp [h]
@[simp] theorem State.crossLine_frameCyc (s : State) : s.crossLine.1.frameCyc = s.frameCyc := by
  rcases s.crossLine_cases with ⟨-, h⟩ | ⟨-, h⟩ | ⟨-, h⟩ <;> simp [h]
@[simp] theorem State.crossLine_acc (s : State) : s.crossLine.1.video.acc = s.video.acc - Config.scanlineCycles := by
  rcases s.crossLine_cases with ⟨-, h⟩ | ⟨-, h⟩ | ⟨-, h⟩ <;> simp [h]
@[simp] theorem State.crossLine_line (s : State) : s.crossLine.1.video.line = (s.video.line + 1) % Config.linesPerFrame := by
  rcases s.crossLine_cases with ⟨-, h⟩ | ⟨-, h⟩ | ⟨-, h⟩ <;> simp [h]

theorem State.wf_crossLine {s : State} (hm : s.mem.wf = true) : s.crossLine.1.mem.wf = true := by
  have hn := State.wf_nextLine hm
  rcases s.crossLine_cases with ⟨-, h⟩ | ⟨-, h⟩ | ⟨-, h⟩ <;> rw [h]
  · simpa using hn
  · exact State.wf_raiseIf hn _
  · exact hn

/-- A crossing writes LY and IF and no other byte (50_video_unit.md R170). -/
theorem State.busRead_crossLine_of_ne (s : State) {a : Word} (h₁ : a ≠ lyAddr) (h₂ : a ≠ ifAddr) :
    s.crossLine.1.busRead a = s.busRead a := by
  have hn := s.busRead_nextLine_of_ne h₁
  rcases s.crossLine_cases with ⟨-, h⟩ | ⟨-, h⟩ | ⟨-, h⟩ <;> rw [h]
  · rw [← hn]; exact State.busRead_congr (State.renderScanline_mem _) a
  · rw [← hn]; exact State.busRead_busWrite_io _ (by decide) _ h₂
  · exact hn

/-- A crossing keeps the framebuffer canonical. -/
theorem State.fbWf_crossLine {s : State} (hf : FrameBuffer.wf s.video.fb = true) : FrameBuffer.wf s.crossLine.1.video.fb = true := by
  rcases s.crossLine_cases with ⟨hl, h⟩ | ⟨-, h⟩ | ⟨-, h⟩ <;> rw [h]
  · simp only [State.renderScanline]
    split
    · exact FrameBuffer.wf_setRow (by simpa using hf) (by simpa using hl) (by simp)
    · simpa using hf
  · simpa using hf
  · simpa using hf

/-! ### The loop -/

/-- What every crossing keeps, the loop keeps. -/
theorem State.vidLoop_keeps {P : State → Prop} (h : ∀ s, P s → P s.crossLine.1) (n : Nat) {s : State} (fc : Bool) (hs : P s) :
    P (State.vidLoop n s fc).1 := by
  induction n generalizing s fc with
  | zero => exact hs
  | succ n ih =>
    unfold State.vidLoop
    split
    · exact ih _ (h s hs)
    · exact hs

/-- What adding cycles and every crossing keep, `Vid.step` keeps (50_video_unit.md R172). -/
theorem State.vidStep_keeps {P : State → Prop} (ha : ∀ s c, P s → P (State.addCycles s c)) (hc : ∀ s, P s → P s.crossLine.1) {s : State}
    (c : Cycles) (hs : P s) : P (s.vidStep c).1 :=
  State.vidLoop_keeps hc _ _ (ha s _ hs)

@[simp] theorem State.vidStep_cpu (s : State) (c : Cycles) : (s.vidStep c).1.cpu = s.cpu :=
  State.vidStep_keeps (P := fun t => t.cpu = s.cpu) (fun _ _ h => h) (fun _ h => by simpa using h) c rfl
@[simp] theorem State.vidStep_buttons (s : State) (c : Cycles) : (s.vidStep c).1.buttons = s.buttons :=
  State.vidStep_keeps (P := fun t => t.buttons = s.buttons) (fun _ _ h => h) (fun _ h => by simpa using h) c rfl
@[simp] theorem State.vidStep_frameCyc (s : State) (c : Cycles) : (s.vidStep c).1.frameCyc = s.frameCyc :=
  State.vidStep_keeps (P := fun t => t.frameCyc = s.frameCyc) (fun _ _ h => h) (fun _ h => by simpa using h) c rfl

theorem State.wf_vidStep {s : State} (hm : s.mem.wf = true) (c : Cycles) : (s.vidStep c).1.mem.wf = true :=
  State.vidStep_keeps (P := fun t => t.mem.wf = true) (fun _ _ h => h) (fun _ h => State.wf_crossLine h) c hm

theorem State.fbWf_vidStep {s : State} (hf : FrameBuffer.wf s.video.fb = true) (c : Cycles) :
    FrameBuffer.wf (s.vidStep c).1.video.fb = true :=
  State.vidStep_keeps (P := fun t => FrameBuffer.wf t.video.fb = true) (fun _ _ h => h) (fun _ h => State.fbWf_crossLine h) c hf

/-- `Vid.step` writes LY and IF and no other byte. -/
theorem State.busRead_vidStep_of_ne (s : State) (c : Cycles) {a : Word} (h₁ : a ≠ lyAddr) (h₂ : a ≠ ifAddr) :
    (s.vidStep c).1.busRead a = s.busRead a :=
  State.vidStep_keeps (P := fun t => t.busRead a = s.busRead a) (fun _ _ h => h)
    (fun t h => (t.busRead_crossLine_of_ne h₁ h₂).trans h) c rfl

/-- The loop leaves less than a scanline's cycles when it may cross often enough. -/
theorem State.vidLoop_acc (n : Nat) (s : State) (fc : Bool) (h : s.video.acc / Config.scanlineCycles ≤ n) :
    (State.vidLoop n s fc).1.video.acc = s.video.acc % Config.scanlineCycles := by
  induction n generalizing s fc with
  | zero =>
    simp only [State.vidLoop]
    simp only [Config.scanlineCycles] at h ⊢
    omega
  | succ n ih =>
    unfold State.vidLoop
    split
    · next hle =>
      rw [ih]
      · simp only [State.crossLine_acc, Config.scanlineCycles] at hle ⊢
        omega
      · simp only [State.crossLine_acc, Config.scanlineCycles] at h hle ⊢
        omega
    · next hlt =>
      simp only [Config.scanlineCycles] at hlt ⊢
      omega

/-- `Vid.step` ends by its own test: `ACC` is back below 456 (50_video_unit.md R171, R172). -/
theorem State.vidStep_acc_lt (s : State) (c : Cycles) : (s.vidStep c).1.video.acc < Config.scanlineCycles := by
  have h := State.vidLoop_acc _ (s.addCycles c.toNat) false (Nat.le_refl _)
  rw [State.vidStep, h]
  exact Nat.mod_lt _ (by decide)

theorem State.vidStep_line_lt {s : State} (h : s.video.line < Config.linesPerFrame) (c : Cycles) :
    (s.vidStep c).1.video.line < Config.linesPerFrame :=
  State.vidStep_keeps (P := fun t => t.video.line < Config.linesPerFrame) (fun _ _ h => h)
    (fun t _ => by rw [State.crossLine_line]; exact Nat.mod_lt _ (by decide)) c h

end Sys2Proof.Machine
end

