-- ==== Sys2Proof/Laws/Exec.lean ====
section
/-! SUPPORT. The shared operations of the CpuCore, and once what an instruction can do. -/

namespace Sys2Proof.Machine

/-! ### The stack -/

/-- Two addresses in a row never reach the same byte (20_memory.md R62, R65). -/
theorem cellKey_ne_of_succ {a b : Word} (h : b = a + 1) (ha : cellKey a ≠ none) : cellKey a ≠ cellKey b := by
  subst h
  intro he
  have h₁ := a.isLt
  have h₂ : (a + 1).toNat = (a.toNat + 1) % 65536 := by simp
  cases hk : cellKey a with
  | none => exact ha hk
  | some k =>
    have hk' := (cellKey_eq_some_iff _ _).1 (he ▸ hk)
    have hk := (cellKey_eq_some_iff _ _).1 hk
    omega

/-- SP moves down by one twice (42_control.md R141). -/
theorem sub_one_sub_one (w : Word) : w - 1 - 1 = w - 2 := by bv_omega

/-- A push moves SP down by two and no other register (42_control.md R141). -/
@[simp] theorem State.pushWord_cpu (s : State) (w : Word) : (s.pushWord w).cpu = { s.cpu with sp := s.cpu.sp - 2 } := by
  rw [← sub_one_sub_one]
  simp [State.pushWord, State.pushByte, State.setSp]

@[simp] theorem State.pushWord_video (s : State) (w : Word) : (s.pushWord w).video = s.video := by simp [State.pushWord, State.pushByte]
@[simp] theorem State.pushWord_buttons (s : State) (w : Word) : (s.pushWord w).buttons = s.buttons := by simp [State.pushWord, State.pushByte]
@[simp] theorem State.pushWord_frameCyc (s : State) (w : Word) : (s.pushWord w).frameCyc = s.frameCyc := by simp [State.pushWord, State.pushByte]

theorem State.wf_pushByte {s : State} (hm : s.mem.wf = true) (v : Byte) : (s.pushByte v).mem.wf = true :=
  State.wf_busWrite (s := s.setSp (s.cpu.sp - 1)) hm _ _

theorem State.wf_pushWord {s : State} (hm : s.mem.wf = true) (w : Word) : (s.pushWord w).mem.wf = true :=
  State.wf_pushByte (State.wf_pushByte hm _) _

/-- Storage after a push: the high byte at SP-1, then the low byte at SP-2 (42_control.md R141). -/
theorem State.pushWord_mem (s : State) (w : Word) :
    (s.pushWord w).mem = (s.mem.write (s.cpu.sp - 1) (hiByte w)).write (s.cpu.sp - 2) (loByte w) := by
  rw [← sub_one_sub_one]
  simp [State.pushWord, State.pushByte]

theorem State.busRead_pushWord (s : State) (w : Word) (b : Word) :
    (s.pushWord w).busRead b = ((s.busWrite (s.cpu.sp - 1) (hiByte w)).busWrite (s.cpu.sp - 2) (loByte w)).busRead b :=
  State.busRead_congr (s.pushWord_mem w) b

/-- A push stores at the two addresses below SP and nowhere else (42_control.md R141). -/
theorem State.busRead_pushWord_of_ne (s : State) (w : Word) {b : Word} (h₁ : cellKey b ≠ cellKey (s.cpu.sp - 1))
    (h₂ : cellKey b ≠ cellKey (s.cpu.sp - 2)) : (s.pushWord w).busRead b = s.busRead b := by
  rw [State.busRead_pushWord, State.busRead_busWrite_of_ne _ _ h₂, State.busRead_busWrite_of_ne _ _ h₁]

/-- The low byte of the pushed word lies at the lower address (42_control.md R141; 20_memory.md R70). -/
theorem State.busRead_pushWord_lo {s : State} (hm : s.mem.wf = true) (w : Word) {b : Word} (h : cellKey b = cellKey (s.cpu.sp - 2))
    (hb : cellKey b ≠ none) : (s.pushWord w).busRead b = loByte w := by
  rw [State.busRead_pushWord, State.busRead_busWrite_self (State.wf_busWrite hm _ _) _ h (h ▸ hb)]

/-- The high byte of the pushed word lies above the low one (42_control.md R141). -/
theorem State.busRead_pushWord_hi {s : State} (hm : s.mem.wf = true) (w : Word) {b : Word} (h : cellKey b = cellKey (s.cpu.sp - 1))
    (hb : cellKey b ≠ none) : (s.pushWord w).busRead b = hiByte w := by
  have hne : cellKey b ≠ cellKey (s.cpu.sp - 2) := by
    intro hc
    refine cellKey_ne_of_succ (a := s.cpu.sp - 2) (b := s.cpu.sp - 1) ?_ (hc ▸ hb) (hc.symm.trans h)
    generalize s.cpu.sp = x
    bv_omega
  rw [State.busRead_pushWord, State.busRead_busWrite_of_ne _ _ hne, State.busRead_busWrite_self hm _ h (h ▸ hb)]

/-! ### Each instruction's next state, in the shared operations -/

theorem exec_nop (s : State) : exec .nop s = .next (s.advance 1) := rfl
theorem exec_ldB (v : Byte) (s : State) : exec (.ldB v) s = .next ((s.advance 2).setReg .b v) := rfl
theorem exec_ldC (v : Byte) (s : State) : exec (.ldC v) s = .next ((s.advance 2).setReg .c v) := rfl
theorem exec_ldD (v : Byte) (s : State) : exec (.ldD v) s = .next ((s.advance 2).setReg .d v) := rfl
theorem exec_ldE (v : Byte) (s : State) : exec (.ldE v) s = .next ((s.advance 2).setReg .e v) := rfl
theorem exec_ldH (v : Byte) (s : State) : exec (.ldH v) s = .next ((s.advance 2).setReg .h v) := rfl
theorem exec_ldL (v : Byte) (s : State) : exec (.ldL v) s = .next ((s.advance 2).setReg .l v) := rfl
theorem exec_ldA (v : Byte) (s : State) : exec (.ldA v) s = .next ((s.advance 2).setReg .a v) := rfl
theorem exec_storeA (a : Word) (s : State) : exec (.storeA a) s = .next ((s.advance 3).busWrite a s.cpu.a) := rfl
theorem exec_loadA (a : Word) (s : State) : exec (.loadA a) s = .next ((s.advance 3).setReg .a (s.busRead a)) := rfl
theorem exec_jp (a : Word) (s : State) : exec (.jp a) s = .next (s.setPc a) := rfl
theorem exec_call (a : Word) (s : State) : exec (.call a) s = .next (((s.advance 3).pushWord (s.cpu.pc + 3)).setPc a) := rfl
theorem exec_ret (s : State) : exec .ret s = .next ((s.setSp (s.cpu.sp + 2)).setPc (s.readWord s.cpu.sp)) := rfl
theorem exec_halt (s : State) : exec .halt s = .next (s.advance 1).halt := rfl
theorem exec_xorA (s : State) : exec .xorA s = .next (((s.advance 1).setReg .a 0x00).setReg .f 0x80) := by
  show Host.Outcome.next (((s.advance 1).setReg .a (s.getReg .a ^^^ s.getReg .a)).setReg .f (xorFlags (s.getReg .a ^^^ s.getReg .a))) = _
  rw [BitVec.xor_self]
  rfl

/-! ### What an instruction can do -/

/-- The effect of an instruction: every instruction is of one of these nine forms. -/
inductive Effect (s : State) : Instr → State → Prop
  | noOp (i : Instr) (h : i = .nop ∨ i.isFallback = true) : Effect s i (s.advance 1)
  | ldImm (i : Instr) (r : Reg8) (v : Byte) (hr : r ≠ .f) (hi : i.operandBytes = [v]) : Effect s i ((s.advance 2).setReg r v)
  | storeA (a : Word) : Effect s (.storeA a) ((s.advance 3).busWrite a s.cpu.a)
  | loadA (a : Word) : Effect s (.loadA a) ((s.advance 3).setReg .a (s.busRead a))
  | jp (a : Word) : Effect s (.jp a) (s.setPc a)
  | call (a : Word) : Effect s (.call a) (((s.advance 3).pushWord (s.cpu.pc + 3)).setPc a)
  | ret : Effect s .ret ((s.setSp (s.cpu.sp + 2)).setPc (s.readWord s.cpu.sp))
  | xorA : Effect s .xorA (((s.advance 1).setReg .a 0x00).setReg .f 0x80)
  | halt : Effect s .halt (s.advance 1).halt

/-- A fallback instruction runs the one shared operation (44_halt_and_fallback.md R160). -/
theorem exec_of_isFallback {i : Instr} (h : i.isFallback = true) (s : State) : exec i s = fallbackNoOp s := by
  cases i
  case nop => exact absurd h (by decide)
  case ldB => exact absurd h (by simp only [Instr.isFallback, Instr.opcode]; decide)
  case ldC => exact absurd h (by simp only [Instr.isFallback, Instr.opcode]; decide)
  case ldD => exact absurd h (by simp only [Instr.isFallback, Instr.opcode]; decide)
  case ldE => exact absurd h (by simp only [Instr.isFallback, Instr.opcode]; decide)
  case ldH => exact absurd h (by simp only [Instr.isFallback, Instr.opcode]; decide)
  case ldL => exact absurd h (by simp only [Instr.isFallback, Instr.opcode]; decide)
  case ldA => exact absurd h (by simp only [Instr.isFallback, Instr.opcode]; decide)
  case storeA => exact absurd h (by simp only [Instr.isFallback, Instr.opcode]; decide)
  case loadA => exact absurd h (by simp only [Instr.isFallback, Instr.opcode]; decide)
  case jp => exact absurd h (by simp only [Instr.isFallback, Instr.opcode]; decide)
  case call => exact absurd h (by simp only [Instr.isFallback, Instr.opcode]; decide)
  case ret => exact absurd h (by decide)
  case xorA => exact absurd h (by decide)
  case halt => exact absurd h (by decide)
  all_goals rfl

/-- What an instruction does, once: `exec` answers a next state, of one of the nine forms. -/
theorem exec_effect (i : Instr) (s : State) : ∃ t, exec i s = .next t ∧ Effect s i t := by
  by_cases h : i.isFallback = true
  · exact ⟨_, exec_of_isFallback h s, .noOp i (.inr h)⟩
  · cases i
    case nop => exact ⟨_, rfl, .noOp _ (.inl rfl)⟩
    case ldB v => exact ⟨_, rfl, .ldImm _ .b v (by decide) rfl⟩
    case ldC v => exact ⟨_, rfl, .ldImm _ .c v (by decide) rfl⟩
    case ldD v => exact ⟨_, rfl, .ldImm _ .d v (by decide) rfl⟩
    case ldE v => exact ⟨_, rfl, .ldImm _ .e v (by decide) rfl⟩
    case ldH v => exact ⟨_, rfl, .ldImm _ .h v (by decide) rfl⟩
    case ldL v => exact ⟨_, rfl, .ldImm _ .l v (by decide) rfl⟩
    case ldA v => exact ⟨_, rfl, .ldImm _ .a v (by decide) rfl⟩
    case storeA a => exact ⟨_, rfl, .storeA a⟩
    case loadA a => exact ⟨_, rfl, .loadA a⟩
    case jp a => exact ⟨_, rfl, .jp a⟩
    case call a => exact ⟨_, rfl, .call a⟩
    case ret => exact ⟨_, rfl, .ret⟩
    case halt => exact ⟨_, rfl, .halt⟩
    case xorA => exact ⟨_, exec_xorA s, .xorA⟩
    all_goals exact absurd (by decide) h

/-- The form of a next state, from `exec`'s answer. -/
theorem effect_of_exec {i : Instr} {s t : State} (h : exec i s = .next t) : Effect s i t := by
  obtain ⟨t', h', he⟩ := exec_effect i s
  rw [h] at h'
  cases h'
  exact he

/-- A store form keeps canonical storage, and so does every other (20_memory.md R63). -/
theorem Effect.wf {s t : State} {i : Instr} (h : Effect s i t) (hm : s.mem.wf = true) : t.mem.wf = true := by
  cases h
  case ldImm => simpa using hm
  case storeA a => exact State.wf_busWrite (s := s.advance 3) hm _ _
  case loadA => simpa using hm
  case call => exact State.wf_pushWord (s := s.advance 3) hm _
  case xorA => simpa using hm
  all_goals exact hm

/-! ### `Cpu.step` -/

/-- `Cpu.step` answers: the idle charge while halted, else the fetched instruction's next state, charged (30_encoding.md R101). -/
theorem State.cpuStep_cases (s : State) :
    (s.cpu.halted = true ∧ s.cpuStep = .next (s.charge s.cpuCost)) ∨
    (s.cpu.halted = false ∧ ∃ t, exec s.fetch s = .next t ∧ s.cpuStep = .next (t.charge s.cpuCost)) := by
  cases h : s.cpu.halted
  · obtain ⟨t, ht, -⟩ := exec_effect s.fetch s
    exact .inr ⟨rfl, t, ht, by simp [State.cpuStep, h, ht]⟩
  · exact .inl ⟨rfl, by simp [State.cpuStep, h]⟩

/-- The opcode of the fetched instruction is the byte at the PC (30_encoding.md R101). -/
theorem State.fetch_opcode (s : State) : s.fetch.opcode = s.busRead s.cpu.pc := decodeBytes_opcode ..

end Sys2Proof.Machine
end

