-- ==== Sys2Proof/Laws/PerInstr.lean ====
section
/-! SUPPORT. The per-instruction family `Shape`: the form of an instruction's encoding (30_encoding.md R100): an opcode byte of the opcode
map, then its operand bytes, as many as its length says. -/

namespace Sys2Proof.Laws.Shape

/-- The encoding begins with the opcode byte, is as long as the instruction's length says, and that length is 1, 2 or 3. -/
def Statement (i : Instr) : Prop :=
  i.encode.head? = some i.opcode ∧ i.encode.length = i.length ∧ (i.length = 1 ∨ i.length = 2 ∨ i.length = 3)

/-- One lemma's whole content: only the third part depends on the instruction. -/
theorem of_length (i : Instr) (h : i.length = 1 ∨ i.length = 2 ∨ i.length = 3) : Statement i :=
  ⟨rfl, Nat.add_comm _ _, h⟩

theorem nop : Statement .nop := of_length _ (.inl rfl)
theorem fallback01 : Statement .fallback01 := of_length _ (.inl rfl)
theorem fallback02 : Statement .fallback02 := of_length _ (.inl rfl)
theorem fallback03 : Statement .fallback03 := of_length _ (.inl rfl)
theorem fallback04 : Statement .fallback04 := of_length _ (.inl rfl)
theorem fallback05 : Statement .fallback05 := of_length _ (.inl rfl)
theorem ldB (d8 : Byte) : Statement (.ldB d8) := of_length _ (.inr (.inl rfl))
theorem fallback07 : Statement .fallback07 := of_length _ (.inl rfl)
theorem fallback08 : Statement .fallback08 := of_length _ (.inl rfl)
theorem fallback09 : Statement .fallback09 := of_length _ (.inl rfl)
theorem fallback0A : Statement .fallback0A := of_length _ (.inl rfl)
theorem fallback0B : Statement .fallback0B := of_length _ (.inl rfl)
theorem fallback0C : Statement .fallback0C := of_length _ (.inl rfl)
theorem fallback0D : Statement .fallback0D := of_length _ (.inl rfl)
theorem ldC (d8 : Byte) : Statement (.ldC d8) := of_length _ (.inr (.inl rfl))
theorem fallback0F : Statement .fallback0F := of_length _ (.inl rfl)
theorem fallback10 : Statement .fallback10 := of_length _ (.inl rfl)
theorem fallback11 : Statement .fallback11 := of_length _ (.inl rfl)
theorem fallback12 : Statement .fallback12 := of_length _ (.inl rfl)
theorem fallback13 : Statement .fallback13 := of_length _ (.inl rfl)
theorem fallback14 : Statement .fallback14 := of_length _ (.inl rfl)
theorem fallback15 : Statement .fallback15 := of_length _ (.inl rfl)
theorem ldD (d8 : Byte) : Statement (.ldD d8) := of_length _ (.inr (.inl rfl))
theorem fallback17 : Statement .fallback17 := of_length _ (.inl rfl)
theorem fallback18 : Statement .fallback18 := of_length _ (.inl rfl)
theorem fallback19 : Statement .fallback19 := of_length _ (.inl rfl)
theorem fallback1A : Statement .fallback1A := of_length _ (.inl rfl)
theorem fallback1B : Statement .fallback1B := of_length _ (.inl rfl)
theorem fallback1C : Statement .fallback1C := of_length _ (.inl rfl)
theorem fallback1D : Statement .fallback1D := of_length _ (.inl rfl)
theorem ldE (d8 : Byte) : Statement (.ldE d8) := of_length _ (.inr (.inl rfl))
theorem fallback1F : Statement .fallback1F := of_length _ (.inl rfl)
theorem fallback20 : Statement .fallback20 := of_length _ (.inl rfl)
theorem fallback21 : Statement .fallback21 := of_length _ (.inl rfl)
theorem fallback22 : Statement .fallback22 := of_length _ (.inl rfl)
theorem fallback23 : Statement .fallback23 := of_length _ (.inl rfl)
theorem fallback24 : Statement .fallback24 := of_length _ (.inl rfl)
theorem fallback25 : Statement .fallback25 := of_length _ (.inl rfl)
theorem ldH (d8 : Byte) : Statement (.ldH d8) := of_length _ (.inr (.inl rfl))
theorem fallback27 : Statement .fallback27 := of_length _ (.inl rfl)
theorem fallback28 : Statement .fallback28 := of_length _ (.inl rfl)
theorem fallback29 : Statement .fallback29 := of_length _ (.inl rfl)
theorem fallback2A : Statement .fallback2A := of_length _ (.inl rfl)
theorem fallback2B : Statement .fallback2B := of_length _ (.inl rfl)
theorem fallback2C : Statement .fallback2C := of_length _ (.inl rfl)
theorem fallback2D : Statement .fallback2D := of_length _ (.inl rfl)
theorem ldL (d8 : Byte) : Statement (.ldL d8) := of_length _ (.inr (.inl rfl))
theorem fallback2F : Statement .fallback2F := of_length _ (.inl rfl)
theorem fallback30 : Statement .fallback30 := of_length _ (.inl rfl)
theorem fallback31 : Statement .fallback31 := of_length _ (.inl rfl)
theorem fallback32 : Statement .fallback32 := of_length _ (.inl rfl)
theorem fallback33 : Statement .fallback33 := of_length _ (.inl rfl)
theorem fallback34 : Statement .fallback34 := of_length _ (.inl rfl)
theorem fallback35 : Statement .fallback35 := of_length _ (.inl rfl)
theorem fallback36 : Statement .fallback36 := of_length _ (.inl rfl)
theorem fallback37 : Statement .fallback37 := of_length _ (.inl rfl)
theorem fallback38 : Statement .fallback38 := of_length _ (.inl rfl)
theorem fallback39 : Statement .fallback39 := of_length _ (.inl rfl)
theorem fallback3A : Statement .fallback3A := of_length _ (.inl rfl)
theorem fallback3B : Statement .fallback3B := of_length _ (.inl rfl)
theorem fallback3C : Statement .fallback3C := of_length _ (.inl rfl)
theorem fallback3D : Statement .fallback3D := of_length _ (.inl rfl)
theorem ldA (d8 : Byte) : Statement (.ldA d8) := of_length _ (.inr (.inl rfl))
theorem fallback3F : Statement .fallback3F := of_length _ (.inl rfl)
theorem fallback40 : Statement .fallback40 := of_length _ (.inl rfl)
theorem fallback41 : Statement .fallback41 := of_length _ (.inl rfl)
theorem fallback42 : Statement .fallback42 := of_length _ (.inl rfl)
theorem fallback43 : Statement .fallback43 := of_length _ (.inl rfl)
theorem fallback44 : Statement .fallback44 := of_length _ (.inl rfl)
theorem fallback45 : Statement .fallback45 := of_length _ (.inl rfl)
theorem fallback46 : Statement .fallback46 := of_length _ (.inl rfl)
theorem fallback47 : Statement .fallback47 := of_length _ (.inl rfl)
theorem fallback48 : Statement .fallback48 := of_length _ (.inl rfl)
theorem fallback49 : Statement .fallback49 := of_length _ (.inl rfl)
theorem fallback4A : Statement .fallback4A := of_length _ (.inl rfl)
theorem fallback4B : Statement .fallback4B := of_length _ (.inl rfl)
theorem fallback4C : Statement .fallback4C := of_length _ (.inl rfl)
theorem fallback4D : Statement .fallback4D := of_length _ (.inl rfl)
theorem fallback4E : Statement .fallback4E := of_length _ (.inl rfl)
theorem fallback4F : Statement .fallback4F := of_length _ (.inl rfl)
theorem fallback50 : Statement .fallback50 := of_length _ (.inl rfl)
theorem fallback51 : Statement .fallback51 := of_length _ (.inl rfl)
theorem fallback52 : Statement .fallback52 := of_length _ (.inl rfl)
theorem fallback53 : Statement .fallback53 := of_length _ (.inl rfl)
theorem fallback54 : Statement .fallback54 := of_length _ (.inl rfl)
theorem fallback55 : Statement .fallback55 := of_length _ (.inl rfl)
theorem fallback56 : Statement .fallback56 := of_length _ (.inl rfl)
theorem fallback57 : Statement .fallback57 := of_length _ (.inl rfl)
theorem fallback58 : Statement .fallback58 := of_length _ (.inl rfl)
theorem fallback59 : Statement .fallback59 := of_length _ (.inl rfl)
theorem fallback5A : Statement .fallback5A := of_length _ (.inl rfl)
theorem fallback5B : Statement .fallback5B := of_length _ (.inl rfl)
theorem fallback5C : Statement .fallback5C := of_length _ (.inl rfl)
theorem fallback5D : Statement .fallback5D := of_length _ (.inl rfl)
theorem fallback5E : Statement .fallback5E := of_length _ (.inl rfl)
theorem fallback5F : Statement .fallback5F := of_length _ (.inl rfl)
theorem fallback60 : Statement .fallback60 := of_length _ (.inl rfl)
theorem fallback61 : Statement .fallback61 := of_length _ (.inl rfl)
theorem fallback62 : Statement .fallback62 := of_length _ (.inl rfl)
theorem fallback63 : Statement .fallback63 := of_length _ (.inl rfl)
theorem fallback64 : Statement .fallback64 := of_length _ (.inl rfl)
theorem fallback65 : Statement .fallback65 := of_length _ (.inl rfl)
theorem fallback66 : Statement .fallback66 := of_length _ (.inl rfl)
theorem fallback67 : Statement .fallback67 := of_length _ (.inl rfl)
theorem fallback68 : Statement .fallback68 := of_length _ (.inl rfl)
theorem fallback69 : Statement .fallback69 := of_length _ (.inl rfl)
theorem fallback6A : Statement .fallback6A := of_length _ (.inl rfl)
theorem fallback6B : Statement .fallback6B := of_length _ (.inl rfl)
theorem fallback6C : Statement .fallback6C := of_length _ (.inl rfl)
theorem fallback6D : Statement .fallback6D := of_length _ (.inl rfl)
theorem fallback6E : Statement .fallback6E := of_length _ (.inl rfl)
theorem fallback6F : Statement .fallback6F := of_length _ (.inl rfl)
theorem fallback70 : Statement .fallback70 := of_length _ (.inl rfl)
theorem fallback71 : Statement .fallback71 := of_length _ (.inl rfl)
theorem fallback72 : Statement .fallback72 := of_length _ (.inl rfl)
theorem fallback73 : Statement .fallback73 := of_length _ (.inl rfl)
theorem fallback74 : Statement .fallback74 := of_length _ (.inl rfl)
theorem fallback75 : Statement .fallback75 := of_length _ (.inl rfl)
theorem halt : Statement .halt := of_length _ (.inl rfl)
theorem fallback77 : Statement .fallback77 := of_length _ (.inl rfl)
theorem fallback78 : Statement .fallback78 := of_length _ (.inl rfl)
theorem fallback79 : Statement .fallback79 := of_length _ (.inl rfl)
theorem fallback7A : Statement .fallback7A := of_length _ (.inl rfl)
theorem fallback7B : Statement .fallback7B := of_length _ (.inl rfl)
theorem fallback7C : Statement .fallback7C := of_length _ (.inl rfl)
theorem fallback7D : Statement .fallback7D := of_length _ (.inl rfl)
theorem fallback7E : Statement .fallback7E := of_length _ (.inl rfl)
theorem fallback7F : Statement .fallback7F := of_length _ (.inl rfl)
theorem fallback80 : Statement .fallback80 := of_length _ (.inl rfl)
theorem fallback81 : Statement .fallback81 := of_length _ (.inl rfl)
theorem fallback82 : Statement .fallback82 := of_length _ (.inl rfl)
theorem fallback83 : Statement .fallback83 := of_length _ (.inl rfl)
theorem fallback84 : Statement .fallback84 := of_length _ (.inl rfl)
theorem fallback85 : Statement .fallback85 := of_length _ (.inl rfl)
theorem fallback86 : Statement .fallback86 := of_length _ (.inl rfl)
theorem fallback87 : Statement .fallback87 := of_length _ (.inl rfl)
theorem fallback88 : Statement .fallback88 := of_length _ (.inl rfl)
theorem fallback89 : Statement .fallback89 := of_length _ (.inl rfl)
theorem fallback8A : Statement .fallback8A := of_length _ (.inl rfl)
theorem fallback8B : Statement .fallback8B := of_length _ (.inl rfl)
theorem fallback8C : Statement .fallback8C := of_length _ (.inl rfl)
theorem fallback8D : Statement .fallback8D := of_length _ (.inl rfl)
theorem fallback8E : Statement .fallback8E := of_length _ (.inl rfl)
theorem fallback8F : Statement .fallback8F := of_length _ (.inl rfl)
theorem fallback90 : Statement .fallback90 := of_length _ (.inl rfl)
theorem fallback91 : Statement .fallback91 := of_length _ (.inl rfl)
theorem fallback92 : Statement .fallback92 := of_length _ (.inl rfl)
theorem fallback93 : Statement .fallback93 := of_length _ (.inl rfl)
theorem fallback94 : Statement .fallback94 := of_length _ (.inl rfl)
theorem fallback95 : Statement .fallback95 := of_length _ (.inl rfl)
theorem fallback96 : Statement .fallback96 := of_length _ (.inl rfl)
theorem fallback97 : Statement .fallback97 := of_length _ (.inl rfl)
theorem fallback98 : Statement .fallback98 := of_length _ (.inl rfl)
theorem fallback99 : Statement .fallback99 := of_length _ (.inl rfl)
theorem fallback9A : Statement .fallback9A := of_length _ (.inl rfl)
theorem fallback9B : Statement .fallback9B := of_length _ (.inl rfl)
theorem fallback9C : Statement .fallback9C := of_length _ (.inl rfl)
theorem fallback9D : Statement .fallback9D := of_length _ (.inl rfl)
theorem fallback9E : Statement .fallback9E := of_length _ (.inl rfl)
theorem fallback9F : Statement .fallback9F := of_length _ (.inl rfl)
theorem fallbackA0 : Statement .fallbackA0 := of_length _ (.inl rfl)
theorem fallbackA1 : Statement .fallbackA1 := of_length _ (.inl rfl)
theorem fallbackA2 : Statement .fallbackA2 := of_length _ (.inl rfl)
theorem fallbackA3 : Statement .fallbackA3 := of_length _ (.inl rfl)
theorem fallbackA4 : Statement .fallbackA4 := of_length _ (.inl rfl)
theorem fallbackA5 : Statement .fallbackA5 := of_length _ (.inl rfl)
theorem fallbackA6 : Statement .fallbackA6 := of_length _ (.inl rfl)
theorem fallbackA7 : Statement .fallbackA7 := of_length _ (.inl rfl)
theorem fallbackA8 : Statement .fallbackA8 := of_length _ (.inl rfl)
theorem fallbackA9 : Statement .fallbackA9 := of_length _ (.inl rfl)
theorem fallbackAA : Statement .fallbackAA := of_length _ (.inl rfl)
theorem fallbackAB : Statement .fallbackAB := of_length _ (.inl rfl)
theorem fallbackAC : Statement .fallbackAC := of_length _ (.inl rfl)
theorem fallbackAD : Statement .fallbackAD := of_length _ (.inl rfl)
theorem fallbackAE : Statement .fallbackAE := of_length _ (.inl rfl)
theorem xorA : Statement .xorA := of_length _ (.inl rfl)
theorem fallbackB0 : Statement .fallbackB0 := of_length _ (.inl rfl)
theorem fallbackB1 : Statement .fallbackB1 := of_length _ (.inl rfl)
theorem fallbackB2 : Statement .fallbackB2 := of_length _ (.inl rfl)
theorem fallbackB3 : Statement .fallbackB3 := of_length _ (.inl rfl)
theorem fallbackB4 : Statement .fallbackB4 := of_length _ (.inl rfl)
theorem fallbackB5 : Statement .fallbackB5 := of_length _ (.inl rfl)
theorem fallbackB6 : Statement .fallbackB6 := of_length _ (.inl rfl)
theorem fallbackB7 : Statement .fallbackB7 := of_length _ (.inl rfl)
theorem fallbackB8 : Statement .fallbackB8 := of_length _ (.inl rfl)
theorem fallbackB9 : Statement .fallbackB9 := of_length _ (.inl rfl)
theorem fallbackBA : Statement .fallbackBA := of_length _ (.inl rfl)
theorem fallbackBB : Statement .fallbackBB := of_length _ (.inl rfl)
theorem fallbackBC : Statement .fallbackBC := of_length _ (.inl rfl)
theorem fallbackBD : Statement .fallbackBD := of_length _ (.inl rfl)
theorem fallbackBE : Statement .fallbackBE := of_length _ (.inl rfl)
theorem fallbackBF : Statement .fallbackBF := of_length _ (.inl rfl)
theorem fallbackC0 : Statement .fallbackC0 := of_length _ (.inl rfl)
theorem fallbackC1 : Statement .fallbackC1 := of_length _ (.inl rfl)
theorem fallbackC2 : Statement .fallbackC2 := of_length _ (.inl rfl)
theorem jp (a16 : Word) : Statement (.jp a16) := of_length _ (.inr (.inr rfl))
theorem fallbackC4 : Statement .fallbackC4 := of_length _ (.inl rfl)
theorem fallbackC5 : Statement .fallbackC5 := of_length _ (.inl rfl)
theorem fallbackC6 : Statement .fallbackC6 := of_length _ (.inl rfl)
theorem fallbackC7 : Statement .fallbackC7 := of_length _ (.inl rfl)
theorem fallbackC8 : Statement .fallbackC8 := of_length _ (.inl rfl)
theorem ret : Statement .ret := of_length _ (.inl rfl)
theorem fallbackCA : Statement .fallbackCA := of_length _ (.inl rfl)
theorem fallbackCB : Statement .fallbackCB := of_length _ (.inl rfl)
theorem fallbackCC : Statement .fallbackCC := of_length _ (.inl rfl)
theorem call (a16 : Word) : Statement (.call a16) := of_length _ (.inr (.inr rfl))
theorem fallbackCE : Statement .fallbackCE := of_length _ (.inl rfl)
theorem fallbackCF : Statement .fallbackCF := of_length _ (.inl rfl)
theorem fallbackD0 : Statement .fallbackD0 := of_length _ (.inl rfl)
theorem fallbackD1 : Statement .fallbackD1 := of_length _ (.inl rfl)
theorem fallbackD2 : Statement .fallbackD2 := of_length _ (.inl rfl)
theorem fallbackD3 : Statement .fallbackD3 := of_length _ (.inl rfl)
theorem fallbackD4 : Statement .fallbackD4 := of_length _ (.inl rfl)
theorem fallbackD5 : Statement .fallbackD5 := of_length _ (.inl rfl)
theorem fallbackD6 : Statement .fallbackD6 := of_length _ (.inl rfl)
theorem fallbackD7 : Statement .fallbackD7 := of_length _ (.inl rfl)
theorem fallbackD8 : Statement .fallbackD8 := of_length _ (.inl rfl)
theorem fallbackD9 : Statement .fallbackD9 := of_length _ (.inl rfl)
theorem fallbackDA : Statement .fallbackDA := of_length _ (.inl rfl)
theorem fallbackDB : Statement .fallbackDB := of_length _ (.inl rfl)
theorem fallbackDC : Statement .fallbackDC := of_length _ (.inl rfl)
theorem fallbackDD : Statement .fallbackDD := of_length _ (.inl rfl)
theorem fallbackDE : Statement .fallbackDE := of_length _ (.inl rfl)
theorem fallbackDF : Statement .fallbackDF := of_length _ (.inl rfl)
theorem fallbackE0 : Statement .fallbackE0 := of_length _ (.inl rfl)
theorem fallbackE1 : Statement .fallbackE1 := of_length _ (.inl rfl)
theorem fallbackE2 : Statement .fallbackE2 := of_length _ (.inl rfl)
theorem fallbackE3 : Statement .fallbackE3 := of_length _ (.inl rfl)
theorem fallbackE4 : Statement .fallbackE4 := of_length _ (.inl rfl)
theorem fallbackE5 : Statement .fallbackE5 := of_length _ (.inl rfl)
theorem fallbackE6 : Statement .fallbackE6 := of_length _ (.inl rfl)
theorem fallbackE7 : Statement .fallbackE7 := of_length _ (.inl rfl)
theorem fallbackE8 : Statement .fallbackE8 := of_length _ (.inl rfl)
theorem fallbackE9 : Statement .fallbackE9 := of_length _ (.inl rfl)
theorem storeA (a16 : Word) : Statement (.storeA a16) := of_length _ (.inr (.inr rfl))
theorem fallbackEB : Statement .fallbackEB := of_length _ (.inl rfl)
theorem fallbackEC : Statement .fallbackEC := of_length _ (.inl rfl)
theorem fallbackED : Statement .fallbackED := of_length _ (.inl rfl)
theorem fallbackEE : Statement .fallbackEE := of_length _ (.inl rfl)
theorem fallbackEF : Statement .fallbackEF := of_length _ (.inl rfl)
theorem fallbackF0 : Statement .fallbackF0 := of_length _ (.inl rfl)
theorem fallbackF1 : Statement .fallbackF1 := of_length _ (.inl rfl)
theorem fallbackF2 : Statement .fallbackF2 := of_length _ (.inl rfl)
theorem fallbackF3 : Statement .fallbackF3 := of_length _ (.inl rfl)
theorem fallbackF4 : Statement .fallbackF4 := of_length _ (.inl rfl)
theorem fallbackF5 : Statement .fallbackF5 := of_length _ (.inl rfl)
theorem fallbackF6 : Statement .fallbackF6 := of_length _ (.inl rfl)
theorem fallbackF7 : Statement .fallbackF7 := of_length _ (.inl rfl)
theorem fallbackF8 : Statement .fallbackF8 := of_length _ (.inl rfl)
theorem fallbackF9 : Statement .fallbackF9 := of_length _ (.inl rfl)
theorem loadA (a16 : Word) : Statement (.loadA a16) := of_length _ (.inr (.inr rfl))
theorem fallbackFB : Statement .fallbackFB := of_length _ (.inl rfl)
theorem fallbackFC : Statement .fallbackFC := of_length _ (.inl rfl)
theorem fallbackFD : Statement .fallbackFD := of_length _ (.inl rfl)
theorem fallbackFE : Statement .fallbackFE := of_length _ (.inl rfl)
theorem fallbackFF : Statement .fallbackFF := of_length _ (.inl rfl)

end Sys2Proof.Laws.Shape
end

