-- ==== Sys2Proof/Laws/Step.lean ====
section
/-! SUPPORT. The machine step and the frame: what a step does, once, and the loop of a `Seq.step_frame` call. -/

namespace Sys2Proof.Machine

/-- The state with another `FRAME_CYC`: what a step leaves after the three transactions (52_machine_loop.md R216, R217). -/
def State.afterCpu (s t : State) : State :=
  { (t.joyUpdate.vidStep s.cpuCost).1 with frameCyc := nextFrameCyc s.frameCyc s.cpuCost }

@[simp] theorem State.afterCpu_cpu (s t : State) : (s.afterCpu t).cpu = t.cpu := by simp [State.afterCpu]
@[simp] theorem State.afterCpu_buttons (s t : State) : (s.afterCpu t).buttons = t.buttons := by simp [State.afterCpu]
@[simp] theorem State.afterCpu_frameCyc (s t : State) : (s.afterCpu t).frameCyc = nextFrameCyc s.frameCyc s.cpuCost := rfl
@[simp] theorem State.afterCpu_video (s t : State) : (s.afterCpu t).video = (t.joyUpdate.vidStep s.cpuCost).1.video := rfl

/-- After the CpuCore has run, no byte but JOYP, IF and LY changes (20_memory.md R78). -/
theorem State.busRead_afterCpu (s t : State) {a : Word} (h : isSharedByte a = false) : (s.afterCpu t).busRead a = t.busRead a := by
  simp only [isSharedByte, Bool.or_eq_false_iff, beq_eq_false_iff_ne, ne_eq] at h
  rw [← State.busRead_joyUpdate_of_ne t h.1.1, ← State.busRead_vidStep_of_ne t.joyUpdate s.cpuCost h.2 h.1.2]
  exact State.busRead_congr rfl a

theorem State.wf_afterCpu (s : State) {t : State} (hm : t.mem.wf = true) : (s.afterCpu t).mem.wf = true :=
  State.wf_vidStep (State.wf_joyUpdate hm) _

/-- A step, from what `Cpu.step` answered. -/
theorem step_of_cpuStep {s t : State} (h : s.cpuStep = .next t) : step s = .next (s.afterCpu t) := by
  simp [step, State.frameIteration, State.machineStep, h, State.afterCpu]

/-- What a step can do, once: `Cpu.step` answers a state, and the step answers that state after the other two sub-blocks
(52_machine_loop.md R217). -/
theorem step_cases (s : State) : ∃ t, s.cpuStep = .next t ∧ step s = .next (s.afterCpu t) ∧
    ((s.cpu.halted = true ∧ t = s.charge s.cpuCost) ∨
     (s.cpu.halted = false ∧ ∃ u, exec s.fetch s = .next u ∧ Effect s s.fetch u ∧ t = u.charge s.cpuCost)) := by
  rcases s.cpuStep_cases with ⟨hh, hc⟩ | ⟨hh, u, hu, hc⟩
  · exact ⟨_, hc, step_of_cpuStep hc, .inl ⟨hh, rfl⟩⟩
  · exact ⟨_, hc, step_of_cpuStep hc, .inr ⟨hh, u, hu, effect_of_exec hu, rfl⟩⟩

/-- The inversion of a step. -/
theorem step_inv {s v : State} (h : step s = .next v) :
    (s.cpu.halted = true ∧ v = s.afterCpu (s.charge s.cpuCost)) ∨
    (s.cpu.halted = false ∧ ∃ u, exec s.fetch s = .next u ∧ Effect s s.fetch u ∧ v = s.afterCpu (u.charge s.cpuCost)) := by
  obtain ⟨t, -, ht, hc⟩ := step_cases s
  rw [ht] at h
  cases h
  rcases hc with ⟨hh, rfl⟩ | ⟨hh, u, hu, he, rfl⟩
  · exact .inl ⟨hh, rfl⟩
  · exact .inr ⟨hh, u, hu, he, rfl⟩

/-! ### The loop of a `Seq.step_frame` call (52_machine_loop.md R216) -/

/-- The loop ends where a step leaves no frame in progress. -/
theorem State.frameLoop_last (n : Nat) {s t : State} (h : step s = .next t) (ht : t.frameCyc = none) :
    State.frameLoop (n + 1) s = .next t := by
  have h' : s.frameIteration = .next t := h
  simp only [State.frameLoop, h', ht]

/-- The loop goes on where a step leaves a frame in progress. -/
theorem State.frameLoop_more (n : Nat) {s t : State} {c : Nat} (h : step s = .next t) (ht : t.frameCyc = some c) :
    State.frameLoop (n + 1) s = State.frameLoop n t := by
  have h' : s.frameIteration = .next t := h
  simp only [State.frameLoop, h', ht]

/-- What every step keeps, the loop keeps. -/
theorem State.frameLoop_keeps {P : State → Prop} (hP : ∀ s t, P s → step s = .next t → P t) (n : Nat) {s t : State} (hs : P s)
    (h : State.frameLoop n s = .next t) : P t := by
  induction n generalizing s with
  | zero => exact Host.Outcome.next.inj h ▸ hs
  | succ n ih =>
    obtain ⟨_, -, hu, -⟩ := step_cases s
    have hi := hP s _ hs hu
    cases hf : nextFrameCyc s.frameCyc s.cpuCost with
    | none => rw [State.frameLoop_last n hu hf] at h; exact Host.Outcome.next.inj h ▸ hi
    | some c => rw [State.frameLoop_more n hu hf] at h; exact ih hi h

/-- What every step keeps, a `Seq.step_frame` call keeps (52_machine_loop.md R216). -/
theorem State.stepFrame_keeps {P : State → Prop} (hP : ∀ s t, P s → step s = .next t → P t) {s : State} {r : HostReply} (hs : P s)
    (h : s.stepFrame = .next r) : P r.state := by
  unfold State.stepFrame at h
  split at h
  · next ht => exact Host.Outcome.next.inj h ▸ State.frameLoop_keeps hP _ hs ht
  · cases h
  · cases h

/-! ### Costs -/

theorem cyc_bounds (op : Byte) : 4 ≤ (cyc op).toNat ∧ (cyc op).toNat ≤ 24 := by
  unfold cyc
  split <;> decide

/-- A machine step costs 4 to 24 cycles (70_reset_and_hazards.md R290). -/
theorem State.cpuCost_bounds (s : State) : 4 ≤ s.cpuCost.toNat ∧ s.cpuCost.toNat ≤ 24 := by
  unfold State.cpuCost
  split
  · decide
  · exact cyc_bounds _

/-! ### An instruction and the rest of the machine -/

/-- An instruction reaches nothing but the CpuCore and storage. -/
theorem Effect.frame {s t : State} {i : Instr} (h : Effect s i t) :
    t.video = s.video ∧ t.buttons = s.buttons ∧ t.frameCyc = s.frameCyc ∧ t.cpu.tcount = s.cpu.tcount := by
  cases h <;> simp

end Sys2Proof.Machine
end

