-- ==== Sys2Proof/Tests/Slice0.lean ====
section
/-! SUPPORT. Tests. Every expected value is the spec's: a word written out from 30_encoding.md R100 and R104, or a vector of
95_test_vectors.md, named in the test's comment. The witnesses at the end meet the hypotheses of the statements. -/

namespace Sys2Proof.Tests

open Sys2Proof Sys2Proof.Machine

/-! ### Helpers -/

/-- The machine after construction, with bytes stored from 0x0100 on. -/
def prog (bytes : List Byte) : State := State.reset.storeBytes 0x0100 bytes

/-- The machine after construction, with single bytes stored. -/
def withBytes : List (Word × Byte) → State
  | [] => State.reset
  | (a, v) :: t => (withBytes t).busWrite a v

/-- The next state of an outcome; the state after construction where there is none. -/
def nextOf : Host.Outcome State Fault Refusal → State
  | .next t => t
  | .fault _ => State.reset
  | .refused _ => State.reset

/-- The outcome is a next state of which `P` holds. -/
def leads (o : Host.Outcome State Fault Refusal) (P : State → Bool) : Bool :=
  match o with
  | .next t => P t
  | .fault _ => false
  | .refused _ => false

/-- The state with another CpuCore state. -/
def withCpu (s : State) (f : Cpu → Cpu) : State := { s with cpu := f s.cpu }

/-- The state with another cycle accumulator and line number. -/
def onLine (s : State) (acc line : Nat) : State := { s with video := { s.video with acc := acc, line := line } }

/-! ### WellFormed: each check refuses an ill-formed line -/

theorem test_wellFormed_ldImm : (Asm.ldImm .a 255).wellFormed = true := by decide
theorem test_illFormed_ldImm_f : (Asm.ldImm .f 0).wellFormed = false := by decide
theorem test_illFormed_d8 : (Asm.ldImm .a 256).wellFormed = false := by decide
theorem test_illFormed_store : (Asm.storeA 65536).wellFormed = false ∧ (Asm.storeA 65535).wellFormed = true := by decide
theorem test_illFormed_load : (Asm.loadA 65536).wellFormed = false ∧ (Asm.loadA 65535).wellFormed = true := by decide
theorem test_illFormed_jp : (Asm.jp 65536).wellFormed = false ∧ (Asm.jp 65535).wellFormed = true := by decide
theorem test_illFormed_call : (Asm.call 65536).wellFormed = false ∧ (Asm.call 65535).wellFormed = true := by decide
theorem test_illFormed_fallback_defined : (Asm.fallback 0x76).wellFormed = false := by decide
theorem test_illFormed_fallback_wide : (Asm.fallback 256).wellFormed = false ∧ (Asm.fallback 0xFF).wellFormed = true := by decide
/-- The source's bytes (95_test_vectors.md S8): `LD A,0x05` is 3E 05, and F has no immediate load. -/
theorem test_assemble : (Asm.ldImm .a 0x05).assemble = some [0x3E, 0x05] ∧ (Asm.ldImm .f 0x05).assemble = none := by decide

/-! ### Decode: words written out from the encodings (30_encoding.md R100, R104, R106) -/

theorem test_decode_nop : decode [0b00000000] = .ok (.nop, []) := by rfl
theorem test_decode_ldB : decode [0b00000110, 0b01110111] = .ok (.ldB 0x77, []) := by rfl
theorem test_decode_ldC : decode [0b00001110, 0x13] = .ok (.ldC 0x13, []) := by rfl
theorem test_decode_ldD : decode [0b00010110, 0xFF] = .ok (.ldD 0xFF, []) := by rfl
theorem test_decode_ldE : decode [0b00011110, 0x01] = .ok (.ldE 0x01, []) := by rfl
theorem test_decode_ldH : decode [0b00100110, 0xC0] = .ok (.ldH 0xC0, []) := by rfl
theorem test_decode_ldL : decode [0b00101110, 0x80] = .ok (.ldL 0x80, []) := by rfl
/-- The source's bytes (S8). -/
theorem test_decode_ldA : decode [0b00111110, 0x05, 0xEA] = .ok (.ldA 0x05, [0xEA]) := by rfl
/-- The source's bytes (S8), low operand byte first. -/
theorem test_decode_storeA : decode [0b11101010, 0b00000000, 0b11000000, 0x76] = .ok (.storeA 0xC000, [0x76]) := by rfl
theorem test_decode_loadA : decode [0b11111010, 0x80, 0xFF] = .ok (.loadA 0xFF80, []) := by rfl
theorem test_decode_jp : decode [0b11000011, 0x50, 0x01] = .ok (.jp 0x0150, []) := by rfl
theorem test_decode_call : decode [0b11001101, 0x60, 0x01] = .ok (.call 0x0160, []) := by rfl
theorem test_decode_ret : decode [0b11001001] = .ok (.ret, []) := by rfl
theorem test_decode_xorA : decode [0b10101111] = .ok (.xorA, []) := by rfl
theorem test_decode_halt : decode [0b01110110] = .ok (.halt, []) := by rfl
/-- The opcode bytes beside the defined ones are one-byte instructions (R106). -/
theorem test_decode_fallback : decode [0b00000001, 0x76] = .ok (.fallback01, [0x76]) ∧ decode [0b11001011, 0x76] = .ok (.fallbackCB, [0x76]) ∧
    decode [0b11111111] = .ok (.fallbackFF, []) := ⟨by rfl, by rfl, by rfl⟩
/-- The fallback opcodes in each row of the opcode map, 241 in all (R104, R106). -/
theorem test_fallback_count : ((opcodeMap 0x76 0x7676).map fun row => (row.filter Instr.isFallback).length) =
    [13, 14, 14, 15, 16, 16, 16, 15, 16, 16, 15, 16, 13, 16, 15, 15] := by
  decide
theorem test_decode_truncated : decode [0xCD, 0x60] = .error .truncated ∧ decode [] = .error .empty := by decide
/-- Numbered as the table numbers bits: opcode lowest, then the operand bytes. -/
theorem test_tableWord : decodeTableWord 24 0xC000EA = some (.storeA 0xC000) ∧ decodeTableWord 8 0xCD = some (.call 0) := by decide

/-! ### Instructions: the vectors of 95_test_vectors.md -/

/-- V11, V41. -/
theorem test_nop : leads (step (prog [0x00])) (fun t =>
    t.cpu == { Cpu.reset with pc := 0x0101, tcount := 4 } && t.video.acc == 4 && t.busRead joypAddr == 0xCF && t.busRead ifAddr == 0) =
    true := by decide
/-- V12. -/
theorem test_ldB : leads (step (prog [0x06, 0x77])) (fun t => t.cpu == { Cpu.reset with b := 0x77, pc := 0x0102, tcount := 8 }) = true := by decide
/-- V13: a load of zero leaves F alone. -/
theorem test_ldC : leads (step (prog [0x0E, 0x00])) (fun t => t.cpu == { Cpu.reset with c := 0x00, pc := 0x0102, tcount := 8 }) = true := by decide
/-- V14. -/
theorem test_ldD : leads (step (prog [0x16, 0xFF])) (fun t => t.cpu == { Cpu.reset with d := 0xFF, pc := 0x0102, tcount := 8 }) = true := by decide
/-- V15. -/
theorem test_ldE : leads (step (prog [0x1E, 0x01])) (fun t => t.cpu == { Cpu.reset with e := 0x01, pc := 0x0102, tcount := 8 }) = true := by decide
/-- V16. -/
theorem test_ldH : leads (step (prog [0x26, 0xC0])) (fun t => t.cpu == { Cpu.reset with h := 0xC0, pc := 0x0102, tcount := 8 }) = true := by decide
/-- V17. -/
theorem test_ldL : leads (step (prog [0x2E, 0x80])) (fun t => t.cpu == { Cpu.reset with l := 0x80, pc := 0x0102, tcount := 8 }) = true := by decide
/-- V18. -/
theorem test_ldA : leads (step (prog [0x3E, 0x05])) (fun t => t.cpu == { Cpu.reset with a := 0x05, pc := 0x0102, tcount := 8 }) = true := by decide
/-- V19: the operand comes from the other end of memory. -/
theorem test_ldA_wrap : leads (withCpu (withBytes [(0xFFFF, 0x3E), (0x0000, 0x42)]) fun c => { c with pc := 0xFFFF }).cpuStep (fun t =>
    t.cpu.a == 0x42 && t.cpu.pc == 0x0001) = true := by decide
/-- V21: a store in the mirror. -/
theorem test_storeA_mirror : leads (step (withCpu (prog [0xEA, 0x34, 0xE2]) fun c => { c with a := 0x7E })) (fun t =>
    t.busRead 0xC234 == 0x7E && t.busRead 0xE234 == 0x7E && t.cpu.pc == 0x0103 && t.cpu.a == 0x7E && t.cpu.f == 0xB0) = true := by decide
/-- V24: a store to JOYP is reshaped in the same step. -/
theorem test_storeA_joyp : leads (step (withCpu (prog [0xEA, 0x00, 0xFF]) fun c => { c with a := 0x10 })) (fun t =>
    t.busRead 0xFF00 == 0xDF && t.cpu.tcount == 16) = true := by decide
/-- V28: a load of zero leaves F alone. -/
theorem test_loadA : leads (step (prog [0xFA, 0x00, 0xC0])) (fun t => t.cpu == { Cpu.reset with a := 0x00, pc := 0x0103, tcount := 16 }) =
    true := by decide
/-- V27: the unusable range. -/
theorem test_loadA_unusable : leads (step (prog [0xFA, 0xA5, 0xFE])) (fun t => t.cpu.a == 0xFF) = true := by decide
/-- V31. -/
theorem test_jp : leads (step (prog [0xC3, 0x50, 0x01])) (fun t => t.cpu == { Cpu.reset with pc := 0x0150, tcount := 16 }) = true := by decide
/-- V32b: operands across the top of memory. -/
theorem test_jp_wrap : leads (withCpu (withBytes [(0xFFFE, 0xC3), (0xFFFF, 0x78), (0x0000, 0x34)]) fun c => { c with pc := 0xFFFE }).cpuStep
    (fun t => t.cpu.pc == 0x3478) = true := by decide
/-- V33. -/
theorem test_call : leads (step (prog [0xCD, 0x00, 0x02])) (fun t =>
    t.cpu == { Cpu.reset with pc := 0x0200, sp := 0xFFFC, tcount := 24 } && t.busRead 0xFFFD == 0x01 && t.busRead 0xFFFC == 0x03) =
    true := by decide
/-- V35: the stack pointer wraps. -/
theorem test_call_wrap : leads (step (withCpu (prog [0xCD, 0x00, 0x02]) fun c => { c with sp := 0x0001 })) (fun t =>
    t.cpu.sp == 0xFFFF && t.busRead 0x0000 == 0x01 && t.busRead 0xFFFF == 0x03) = true := by decide
/-- V34: the state after V33, with the RET. -/
theorem test_ret : leads (step (withCpu (withBytes [(0x0200, 0xC9), (0xFFFC, 0x03), (0xFFFD, 0x01)]) fun c =>
    { c with pc := 0x0200, sp := 0xFFFC })) (fun t => t.cpu == { Cpu.reset with pc := 0x0103, tcount := 16 } &&
    t.busRead 0xFFFC == 0x03 && t.busRead 0xFFFD == 0x01) = true := by decide
/-- V36, second half: a return address from the unusable range. -/
theorem test_ret_unusable : leads (step (withCpu (withBytes [(0x0200, 0xC9)]) fun c => { c with pc := 0x0200, sp := 0xFEA0 })) (fun t =>
    t.cpu.pc == 0xFFFF && t.cpu.sp == 0xFEA2) = true := by decide
/-- V38. -/
theorem test_xorA : leads (step (withCpu (prog [0xAF]) fun c => { c with a := 0xFF, f := 0x70 })) (fun t =>
    t.cpu == { Cpu.reset with a := 0x00, f := 0x80, pc := 0x0101, tcount := 4 }) = true := by decide
/-- V40, machine step 1. -/
theorem test_halt : leads (step (prog [0x76])) (fun t => t.cpu == { Cpu.reset with pc := 0x0101, halted := true, tcount := 4 }) =
    true := by decide
/-- V40, machine step 2: a halted step. -/
theorem test_halted : leads (step (withCpu (prog [0x06, 0x77]) fun c => { c with halted := true })) (fun t =>
    t.cpu == { Cpu.reset with halted := true, tcount := 4 } && t.video.acc == 4) = true := by decide
/-- V44: no push. -/
theorem test_fallbackFF : leads (step (prog [0xFF, 0x76])) (fun t => t.cpu == { Cpu.reset with pc := 0x0101, tcount := 4 }) = true := by decide
/-- V45: no prefix. -/
theorem test_fallbackCB : leads (step (prog [0xCB, 0x76])) (fun t => t.cpu == { Cpu.reset with pc := 0x0101, tcount := 4 }) = true := by decide

/-! ### Placing an instruction -/

/-- The next step runs exactly the placed instruction, also in a machine that was halted. -/
theorem test_withFetchWord : leads (step ((withCpu State.reset fun c => { c with halted := true }).withFetchWord 16 0x773E)) (fun t =>
    t.cpu.a == 0x77 && t.cpu.pc == 0x0102 && t.cpu.halted == false) = true := by decide

/-! ### VideoUnit -/

/-- V48 to V50: a boundary is crossed when the count reaches 456. -/
theorem test_vid_boundary : (State.reset.vidStep 455).1.video.line = 0 ∧ ((State.reset.vidStep 455).1.vidStep 1).1.video.line = 1 ∧
    (State.reset.vidStep 456).1.busRead lyAddr = 1 := by decide
/-- V58: line 144 sets bit 0 of IF and keeps the rest. -/
theorem test_vid_line144 : ((onLine (withBytes [(0xFF0F, 0xE0)]) 0 143).vidStep 456).2 = true ∧
    ((onLine (withBytes [(0xFF0F, 0xE0)]) 0 143).vidStep 456).1.busRead 0xFF0F = 0xE1 := by decide
/-- V57: the wrap to line 0. -/
theorem test_vid_wrap : ((onLine State.reset 455 153).vidStep 1).1.video.line = 0 ∧ ((onLine State.reset 455 153).vidStep 1).2 = false := by
  decide
/-- V60: the store to LY does not move the scanline. -/
theorem test_vid_ly : ((onLine (withBytes [(0xFF44, 0x90)]) 0 10).vidStep 456).1.busRead lyAddr = 0x0B := by decide
/-- 50_video_unit.md R189, the worked pixel. -/
theorem test_pixel_worked : (List.range 9).map ((withBytes [(0xFF40, 0x91), (0x9800, 0x01), (0x8010, 0xF0), (0x8011, 0xCC)]).pixelColour 0) =
    [3, 3, 1, 1, 2, 2, 0, 0, 0] := by decide
/-- V61b: signed addressing. -/
theorem test_pixel_signed : (List.range 16).map ((withBytes [(0xFF40, 0x80), (0x9800, 0x80), (0x8802, 0xA0), (0x8803, 0xC0), (0x9801, 0x7F),
    (0x97F2, 0xFF)]).pixelColour 1) = [3, 2, 1, 0, 0, 0, 0, 0, 1, 1, 1, 1, 1, 1, 1, 1] := by decide
/-- V61c: the other map. -/
theorem test_pixel_map : (List.range 4).map ((withBytes [(0xFF40, 0x88), (0x9C00, 0x01), (0x9012, 0x80), (0x9013, 0x80)]).pixelColour 1) =
    [3, 0, 0, 0] := by decide
/-- V61d: scroll, with vertical wrap. -/
theorem test_pixel_scrollY : (List.range 6).map ((withBytes [(0xFF40, 0x91), (0xFF42, 0xFA), (0xFF43, 0x05), (0x9BE0, 0x02), (0x8026, 0x07),
    (0x8027, 0x05)]).pixelColour 1) = [3, 1, 3, 0, 0, 0] := by decide
/-- V61e: horizontal wrap. -/
theorem test_pixel_scrollX : (List.range 8).map ((withBytes [(0xFF40, 0x91), (0xFF43, 0xFC), (0x9800, 0x01), (0x8012, 0x80), (0x8013, 0x80),
    (0x981F, 0x03), (0x8032, 0x0F)]).pixelColour 1) = [1, 1, 1, 1, 3, 0, 0, 0] := by decide

/-! ### InputLatch -/

/-- V62, press. -/
theorem test_joy_press : ((withBytes [(0xFF00, 0x10)]).setButton .a true).busRead 0xFF00 = 0x10 ∧
    ((withBytes [(0xFF00, 0x10)]).setButton .a true).busRead 0xFF0F = 0x10 ∧
    ((withBytes [(0xFF00, 0x10)]).setButton .a true).joyUpdate.busRead 0xFF00 = 0xDE := by decide
/-- V63: all four select states. -/
theorem test_joy_select : [0x0F#8, 0x1F#8, 0x2F#8, 0x3F#8].map (joypAfter { Buttons.reset with a := true, left := true }) =
    [0xCC#8, 0xDE#8, 0xED#8, 0xFF#8] := by decide
/-- V64, V65. -/
theorem test_joy_nibble : joypAfter { Buttons.reset with right := true, left := true, up := true, down := true } 0x20 = 0xE0 ∧
    joypAfter Buttons.reset 0x03 = 0xCF := by decide

/-! ### Program load -/

/-- V10b: the cartridge region is zeroed first, a short image is padded. -/
theorem test_load : let s := (withBytes [(0x4000, 0x55), (0xFF80, 0x2A)]).loadProgram [0x01, 0x02, 0x03]
    [s.busRead 0x0000, s.busRead 0x0002, s.busRead 0x0003, s.busRead 0x4000, s.busRead 0xFF80] = [0x01, 0x03, 0x00, 0x00, 0x2A] := by decide

/-! ### Witnesses: for each statement with hypotheses, states and operands that meet them -/

/-- The next state of a step, by its value. -/
def nextStep (s : State) : State := nextOf (step s)

/-- The canonical storage that the statements about stores ask for, with a byte stored in it. -/
theorem witness_canonical : (prog [0xEA, 0x00, 0xC0]).mem.wf = true := by decide

theorem witness_BusReadRoutesByRange :
    [0x0000, 0x7FFF, 0x8000, 0x9FFF, 0xA000, 0xBFFF, 0xC000, 0xDFFF, 0xE000, 0xFDFF, 0xFE00, 0xFE9F, 0xFEA0, 0xFEFF, 0xFF00, 0xFF7F, 0xFF80,
      0xFFFE, 0xFFFF].map route =
    [some (.rom, 0), some (.rom, 0x7FFF), some (.vram, 0), some (.vram, 0x1FFF), some (.eram, 0), some (.eram, 0x1FFF), some (.wram, 0),
      some (.wram, 0x1FFF), some (.wram, 0), some (.wram, 0x1DFF), some (.oam, 0), some (.oam, 0x9F), none, none, some (.io, 0),
      some (.io, 0x7F), some (.hram, 0), some (.hram, 0x7E), some (.ie, 0)] := by decide

/-- A routed byte, its mirror address, another byte, and both ends of the unusable range. -/
theorem witness_BusWriteStoresOneByte : (prog [0x00]).mem.wf = true ∧ route 0xDDFF ≠ none ∧ route 0xFDFF = route 0xDDFF ∧
    route 0xDE00 ≠ route 0xFDFF ∧ route 0xFEA0 = none ∧ route 0xFEFF = none := by decide

theorem witness_MirrorAliasesWorkRam : (0xE000 ≤ (0xE000#16).toNat ∧ (0xFDFF#16).toNat ≤ 0xFDFF) ∧
    (0xDE00 ≤ (0xDE00#16).toNat ∧ (0xDFFF#16).toNat ≤ 0xDFFF ∧ route 0xDFFF = route 0xDFFF) := by decide

theorem witness_UnusableRange : (0xFEA0 ≤ (withCpu State.reset fun c => { c with pc := 0xFEA0 }).cpu.pc.toNat) ∧
    ((withCpu State.reset fun c => { c with pc := 0xFEFF }).cpu.pc.toNat ≤ 0xFEFF) ∧
    (0xFEA2 ≤ (withCpu State.reset fun c => { c with sp := 0xFEA2 }).cpu.sp.toNat) ∧
    ((withCpu State.reset fun c => { c with sp := 0xFF00 }).cpu.sp.toNat ≤ 0xFF00) ∧
    ((withCpu State.reset fun c => { c with sp := 0xFEFE }).cpu.sp.toNat ≤ 0xFEFE) := by decide

theorem witness_LoadProgramRewritesCartridge : (0 < 32768 ∧ 0 < [0x3E#8].length) ∧ (32767 < 32768 ∧ [0x3E#8].length ≤ 32767) ∧
    0x8000 ≤ (0x8000#16).toNat := by decide

theorem witness_EncodeInvertsDecode : decode [0x3E, 0x05, 0x99] = .ok (.ldA 0x05, [0x99]) := by rfl

theorem witness_DecodeIsTotal : decode [] = .error .empty ∧ decode [0xEA, 0x00] = .error .truncated ∧ decode [0x06] = .error .truncated :=
  ⟨by rfl, by rfl, by rfl⟩

theorem witness_FallbackBytesDecode : (decodeBytes 0x01 0x76 0x76).isFallback = true ∧ (decodeBytes 0xFF 0x76 0x76).isFallback = true := by
  decide

theorem witness_AssemblerAgreesWithDecoder : (Asm.ldImm .f 0).wellFormed = false ∧ (Reg8.a ≠ .f ∧ 255 < 256) ∧ 65535 < 65536 ∧
    Asm.halt ∈ [Asm.nop, .ret, .xorA, .halt] ∧ (0xFF < 256 ∧ BitVec.ofNat 8 0xFF ∉ definedOpcodes) := by decide

/-- A line of each refused kind, at the first value refused. -/
theorem witness_AssemblerAgreesWithDecoder_refused :
    [Asm.ldImm .f 0, .ldImm .a 256, .storeA 65536, .loadA 65536, .jp 65536, .call 65536, .fallback 0x00, .fallback 0xFA, .fallback 256].map
      Asm.assemble = List.replicate 9 none := by decide

theorem witness_FallbackActsAsNop : Instr.fallback01.isFallback = true ∧ Instr.fallbackFF.isFallback = true ∧
    Instr.fallbackCB.isFallback = true := by decide

/-- The byte stored, its mirror, another byte, and an address with no storage. -/
theorem witness_StoreAccumulator : (prog [0xEA, 0x00, 0xC0]).mem.wf = true ∧ route 0xE000 = route 0xC000 ∧ route 0xC001 ≠ route 0xC000 ∧
    route 0xFEA0 = none := by decide

/-- A stack in high RAM; one whose upper byte is in the unusable range. -/
theorem witness_CallPushesReturnAddress : (prog [0xCD, 0x00, 0x02]).mem.wf = true ∧
    (let sp := (prog [0xCD, 0x00, 0x02]).cpu.sp
     route (sp - 1) = some (.hram, 0x7D) ∧ route (sp - 2) = some (.hram, 0x7C) ∧ route 0xC000 ≠ route (sp - 1) ∧
       route 0xC000 ≠ route (sp - 2)) ∧ route (0xFEA1 - 1) = none ∧ route (0xFEA1 - 2) = some (.oam, 0x9F) := by decide

theorem witness_OnlyXorTouchesFlags : exec .xorA State.reset = .next (nextOf (exec .xorA State.reset)) ∧ Instr.ret ≠ .xorA := by
  refine ⟨rfl, by decide⟩

theorem witness_FlagLowNibbleStaysZero : State.reset.cpu.f &&& 0x0F = 0 ∧ step (prog [0xAF]) = .next (nextStep (prog [0xAF])) ∧
    (prog [0xAF]).fetch = .xorA := ⟨by decide, by rfl, by rfl⟩

theorem witness_HaltedLatchWriters : Instr.nop ≠ .halt ∧ exec .nop State.reset = .next (nextOf (exec .nop State.reset)) ∧
    (withCpu State.reset fun c => { c with halted := true }).cpu.halted = true ∧
    step (withCpu State.reset fun c => { c with halted := true }) =
      .next (nextStep (withCpu State.reset fun c => { c with halted := true })) := ⟨by decide, rfl, rfl, by rfl⟩

/-- A halted machine whose frame has one step left. -/
def lastHaltedStep : State := withCpu { State.reset with frameCyc := some 70220 } fun c => { c with halted := true }

/-- Its `Seq.step_frame` answers. -/
theorem witness_HaltedLatchWriters_frame : lastHaltedStep.cpu.halted = true ∧
    lastHaltedStep.stepFrame = .next ⟨nextStep lastHaltedStep, some (FrameBuffer.copy (nextStep lastHaltedStep).video.fb)⟩ := by
  refine ⟨by decide, ?_⟩
  have h : State.frameLoop maxFrameSteps lastHaltedStep = .next (nextStep lastHaltedStep) :=
    State.frameLoop_last 17555 (by rfl) (by rfl)
  rw [State.stepFrame, h]

theorem witness_StackPointerWriters : exec (.call 0x0200) State.reset = .next (nextOf (exec (.call 0x0200) State.reset)) ∧
    exec .ret State.reset = .next (nextOf (exec .ret State.reset)) ∧
    exec .nop State.reset = .next (nextOf (exec .nop State.reset)) := ⟨rfl, rfl, rfl⟩

theorem witness_InstructionReach : exec (.loadA 0xFF00) State.reset = .next (nextOf (exec (.loadA 0xFF00) State.reset)) ∧
    (∀ a, Instr.loadA 0xFF00 ≠ .storeA a) ∧ (∀ a, Instr.loadA 0xFF00 ≠ .call a) :=
  ⟨rfl, fun _ h => (nomatch h), fun _ h => (nomatch h)⟩

/-- A CALL at 0x0100 of a RET at 0x0200. -/
def callRet : State := withBytes [(0x0100, 0xCD), (0x0101, 0x00), (0x0102, 0x02), (0x0200, 0xC9)]

theorem witness_CallThenReturn : callRet.mem.wf = true ∧ callRet.cpu.halted = false ∧ callRet.fetch = .call 0x0200 ∧
    step callRet = .next (nextStep callRet) ∧ (nextStep callRet).fetch = .ret ∧
    step (nextStep callRet) = .next (nextStep (nextStep callRet)) ∧
    route (callRet.cpu.sp - 1) ≠ none ∧ route (callRet.cpu.sp - 2) ≠ none ∧
    isSharedByte (callRet.cpu.sp - 1) = false ∧ isSharedByte (callRet.cpu.sp - 2) = false :=
  ⟨by decide, by decide, by rfl, by rfl, by rfl, by rfl, by decide, by decide, by decide, by decide⟩

theorem witness_StoreIsFetchedNext :
    let s := prog [0xEA, 0x03, 0x01]
    s.mem.wf = true ∧ s.cpu.halted = false ∧ s.fetch = .storeA (s.cpu.pc + 3) ∧ step s = .next (nextStep s) ∧
      route (s.cpu.pc + 3) ≠ none ∧ isSharedByte (s.cpu.pc + 3) = false :=
  ⟨by decide, by decide, by rfl, by rfl, by decide, by decide⟩

theorem witness_StepRunsDecodedInstruction :
    let s := prog [0xC3, 0x50, 0x01]
    s.cpu.halted = false ∧ decode s.fetchBytes = .ok (.jp 0x0150, []) ∧ exec (.jp 0x0150) s = .next (nextOf (exec (.jp 0x0150) s)) :=
  ⟨by decide, by rfl, by rfl⟩

theorem witness_HaltedStep : (withCpu State.reset fun c => { c with halted := true }).cpu.halted = true ∧ isSharedByte 0xFF01 = false := by
  decide

theorem witness_CycleCosts : (onLine State.reset 455 0).video.acc < 456 ∧
    (withCpu State.reset fun c => { c with halted := true }).cpu.halted = true := by decide

theorem reset_inv : State.reset.Inv where
  memWf := by decide
  flagsLow := by decide
  accLt := by decide
  lineLt := by decide
  fbWf := by decide
  frameLt := fun _ h => nomatch h

theorem witness_StepKeepsInvariant : State.reset.Inv ∧ step State.reset = .next (nextStep State.reset) := ⟨reset_inv, by rfl⟩

theorem witness_ClockClosedForm : State.reset.OnTime ∧ step State.reset = .next (nextStep State.reset) :=
  ⟨⟨by decide, by decide⟩, by rfl⟩

theorem witness_HostCallKeepsInvariant : State.reset.Inv ∧
    hostCall (.setButton .a true) State.reset = .next ⟨State.reset.setButton .a true, none⟩ := ⟨reset_inv, by rfl⟩

theorem witness_VidStepClosedForm : (onLine State.reset 455 153).video.line < 154 := by decide

theorem witness_VidStepSplits : (456 : Cycles).toNat + (24 : Cycles).toNat < 2 ^ 32 := by decide

/-- The first and the last of the lines entered, a set bit of IF, and instructions that do and do not reach IF. -/
theorem witness_BlankingLines : (144 ≤ (onLine State.reset 456 144).video.line ∧ (onLine State.reset 456 152).video.line ≤ 152) ∧
    ((withBytes [(0xFF0F, 0x01)]).mem.wf = true ∧ ((withBytes [(0xFF0F, 0x01)]).busRead ifAddr).getLsbD 0 = true) ∧
    (exec (.storeA 0xFF10) State.reset = .next (nextOf (exec (.storeA 0xFF10) State.reset)) ∧ Instr.storeA 0xFF10 ≠ .storeA ifAddr ∧
      ∀ a, Instr.storeA 0xFF10 = .call a → State.reset.cpu.sp - 1 ≠ ifAddr ∧ State.reset.cpu.sp - 2 ≠ ifAddr) :=
  ⟨by decide, by decide, by rfl, by decide, fun _ h => nomatch h⟩

theorem witness_VerticalBlank : (onLine State.reset 456 143).mem.wf = true ∧ (onLine State.reset 456 143).video.line = 143 := by decide

theorem witness_LyMirrorsLine : (onLine (prog [0xEA, 0x44, 0xFF]) 456 153).mem.wf = true := by decide

theorem witness_LcdOffLeavesScanline : (State.reset.busRead 0xFF40).getLsbD 7 = false := by decide

/-- The last pixel of the last line, and a byte of another row. -/
theorem witness_RenderWritesOneRow : (onLine (withBytes [(0xFF40, 0x91)]) 0 143).lcdEnabled = true ∧
    (onLine (withBytes [(0xFF40, 0x91)]) 0 143).video.line < 144 ∧ 159 < 160 ∧ 3 < 4 ∧
    (640 * 143 - 1) / 640 ≠ (onLine (withBytes [(0xFF40, 0x91)]) 0 143).video.line := by decide

/-- A step that enters line 144, and one that does not. -/
theorem witness_FrameCompleteAtLine144 :
    (∃ m, (onLine State.reset 452 143).machineStep = .next m ∧ m.frameComplete = true ∧ m.state.video.line = 144) ∧
    (∃ m, (onLine State.reset 451 143).machineStep = .next m ∧ m.frameComplete = false ∧ m.state.video.line = 143) :=
  ⟨⟨_, rfl, by rfl, by rfl⟩, ⟨_, rfl, by rfl, by rfl⟩⟩

theorem witness_JoyUpdateRewritesJoyp : (withBytes [(0xFF00, 0x10)]).mem.wf = true ∧ (0xFF01#16) ≠ 0xFF00 := by decide

theorem witness_SetButtonRaisesJoypadBit : (withBytes [(0xFF00, 0x10)]).mem.wf = true ∧ Button.start ≠ .a ∧ (0xFF00#16) ≠ 0xFF0F := by decide

theorem witness_StepFrameReturns : State.reset.frameCyc = none ∧ 92159 < 92160 := by decide

theorem witness_HaltedFrame : (withCpu State.reset fun c => { c with halted := true }).cpu.halted = true ∧
    (withCpu State.reset fun c => { c with halted := true }).frameCyc = none := by decide

theorem witness_HostActsBetweenFrames : (nextStep State.reset).frameCyc = some 4 ∧ State.reset.frameCyc = none := by decide

/-- A step that stores nothing at the byte, one that stores elsewhere, and one that pushes elsewhere. -/
theorem witness_StepChangesOnlyStoredBytes :
    (step (prog [0xEA, 0x00, 0xC0]) = .next (nextStep (prog [0xEA, 0x00, 0xC0])) ∧ (prog [0xEA, 0x00, 0xC0]).fetch = .storeA 0xC000) ∧
    isSharedByte 0xC001 = false ∧ route 0xC001 ≠ route 0xC000 ∧
    (step callRet = .next (nextStep callRet) ∧ callRet.fetch = .call 0x0200 ∧ route 0xC001 ≠ route (callRet.cpu.sp - 1) ∧
      route 0xC001 ≠ route (callRet.cpu.sp - 2)) :=
  ⟨⟨by rfl, by rfl⟩, by decide, by decide, by rfl, by rfl, by decide, by decide⟩

/-- No boundary, by one cycle; the first and the last count of one boundary. -/
theorem witness_VidStepCrossesOneLine : (onLine State.reset 451 0).video.acc + (4 : Cycles).toNat < 456 ∧
    456 ≤ (onLine State.reset 452 0).video.acc + (4 : Cycles).toNat ∧
    (onLine State.reset 455 0).video.acc + (456 : Cycles).toNat < 912 := by decide

/-- The last visible line, and line 0 entered from 153, with the LCD on. -/
theorem witness_VisibleLineRendersOnEntry : ((onLine (withBytes [(0xFF40, 0x91)]) 456 142).video.line + 1) % 154 < 144 ∧
    ((onLine (withBytes [(0xFF40, 0x91)]) 456 153).video.line + 1) % 154 < 144 ∧
    (onLine (withBytes [(0xFF40, 0x91)]) 456 153).lcdEnabled = true ∧ 159 < 160 ∧ 3 < 4 ∧
    640 / 640 ≠ ((onLine (withBytes [(0xFF40, 0x91)]) 456 153).video.line + 1) % 154 := by decide

/-- V61c by way of `Vid.step`: entering line 1 renders row 1 with the colours of its pixels. -/
theorem test_vid_renders : ((FrameBuffer.row
    ((withBytes [(0xFF40, 0x88), (0x9C00, 0x01), (0x9012, 0x80), (0x9013, 0x80)]).vidStep 456).1.video.fb 1).map fun r => r.take 4) =
    some [3, 0, 0, 0] := by decide

end Sys2Proof.Tests
end

section
/-! PROOFS. The statements of 10_state.md: the values after construction (R50), who writes F and who reads it (R28), who writes HALTED
(R29). -/

namespace Sys2Proof.Machine

/-! ### The values after construction (10_state.md R50) -/

/-- Storage after construction reads `MEM_INIT` at every byte. -/
@[simp] theorem State.regionByte_reset (r : Region) (i : Nat) : State.reset.regionByte r i = memInit := rfl

/-- A framebuffer with no rendered row reads `FB_INIT` at every byte. -/
@[simp] theorem FrameBuffer.byteAt_nil (i : Nat) : FrameBuffer.byteAt [] i = Config.fbInit i := rfl

@[simp] theorem Buttons.get_reset (n : Button) : Buttons.reset.get n = false := by cases n <;> rfl

/-- Settles O1: the registers and counters are the literals of `State.reset`; storage, framebuffer and buttons are read by the lemmas
above. -/
theorem resetValues : Obligations.ResetValues :=
  ⟨rfl, rfl, rfl, rfl, rfl, rfl, State.regionByte_reset, rfl, rfl, FrameBuffer.byteAt_nil, Buttons.get_reset, rfl⟩

/-! ### Who writes the halted latch (10_state.md R29) -/

@[simp] theorem State.setButton_cpu (s : State) (n : Button) (p : Bool) : (s.setButton n p).cpu = s.cpu :=
  s.raiseIf_cpu ifJoypadMask

@[simp] theorem State.loadProgram_cpu (s : State) (img : List Byte) : (s.loadProgram img).cpu = Cpu.reset := rfl

/-- Eight of the nine forms of an effect leave HALTED alone. -/
theorem Effect.cpu_halted {s t : State} {i : Instr} (h : Effect s i t) (hi : i ≠ .halt) : t.cpu.halted = s.cpu.halted := by
  cases h
  case halt => exact absurd rfl hi
  all_goals simp

/-- A halted CpuCore looks at HALTED first and only charges the idle cost (44_halt_and_fallback.md R156). -/
theorem State.cpuStep_of_halted {s : State} (h : s.cpu.halted = true) : s.cpuStep = .next (s.charge s.cpuCost) := by
  rcases s.cpuStep_cases with ⟨-, hc⟩ | ⟨hrun, -⟩
  · exact hc
  · exact absurd (h.symm.trans hrun) (by decide)

/-- A machine step of a halted machine leaves it halted: no sub-block clears the latch. -/
theorem step_keeps_halted {s t : State} (hs : s.cpu.halted = true) (h : step s = .next t) : t.cpu.halted = true := by
  rw [step_of_cpuStep (State.cpuStep_of_halted hs)] at h
  cases h
  simpa using hs

/-- Settles O28: the writers by the frame lemmas of each transaction, the halted step by `step_keeps_halted`, and the whole frame by
induction over its steps (`State.stepFrame_keeps`). -/
theorem haltedLatchWriters : Obligations.HaltedLatchWriters := by
  refine ⟨rfl, fun s => ⟨_, exec_halt s, State.halt_cpu_halted _⟩, fun i s t hi h => (effect_of_exec h).cpu_halted hi, fun s => ?_,
    fun s c => ?_, fun s n p => ?_, fun s img => ?_, fun s => State.cpuStep_of_halted, fun s t => step_keeps_halted,
    fun s r => State.stepFrame_keeps fun _ _ => step_keeps_halted⟩
  · rw [State.joyUpdate_cpu]
  · rw [State.vidStep_cpu]
  · rw [State.setButton_cpu]
  · rw [State.loadProgram_cpu]
    rfl

/-! ### Who writes the flags, and who reads them (10_state.md R28) -/

/-- The state with another byte in F, low nibble included. -/
def State.withF (s : State) (v : Byte) : State := { s with cpu := { s.cpu with f := v } }

/-- XOR A leaves 0x80 in F (43_alu.md R150). -/
theorem cpu_f_of_exec_xorA {s t : State} (h : exec .xorA s = .next t) : t.cpu.f = 0x80 := by
  rw [exec_xorA] at h
  cases h
  rfl

/-- XOR A overwrites A and F, so what F held is gone (43_alu.md R150). -/
theorem exec_xorA_withF (s : State) (v : Byte) : exec .xorA (s.withF v) = exec .xorA s := by
  rw [exec_xorA, exec_xorA]
  rfl

/-- Eight of the nine forms of an effect leave F alone; an immediate load does because it names no F (30_encoding.md R105). -/
theorem Effect.cpu_f {s t : State} {i : Instr} (h : Effect s i t) (hi : i ≠ .xorA) : t.cpu.f = s.cpu.f := by
  cases h
  case xorA => exact absurd rfl hi
  case ldImm r v hr _ => exact State.getReg_setReg_of_ne (s.advance 2) v hr.symm
  case loadA a => exact State.getReg_setReg_of_ne (s.advance 3) (s.busRead a) (show Reg8.f ≠ .a by decide)
  all_goals simp

/-- An instruction other than XOR A carries F along unread: it commutes with putting another byte in F. Every operation that such an
instruction is made of does so by computation, on each constructor. -/
theorem exec_withF {s t : State} {i : Instr} (hi : i ≠ .xorA) (h : exec i s = .next t) (v : Byte) :
    exec i (s.withF v) = .next (t.withF v) := by
  cases i
  case xorA => exact absurd rfl hi
  all_goals
    cases h
    rfl

/-- Settles O26: the flags of XOR A are the bits of 0x80; every other instruction keeps F (`Effect.cpu_f`) and commutes with a change of
F (`exec_withF`). -/
theorem onlyXorTouchesFlags : Obligations.OnlyXorTouchesFlags := by
  refine ⟨fun s t h => ?_, fun i s hi => ?_, exec_xorA_withF⟩
  · have hf := cpu_f_of_exec_xorA h
    simp [Cpu.flagZ, Cpu.flagN, Cpu.flagH, Cpu.flagC, hf]
  · obtain ⟨t, ht, he⟩ := exec_effect i s
    exact ⟨t, ht, he.cpu_f hi, exec_withF hi ht⟩

end Sys2Proof.Machine
end

section
/-! PROOFS. The statements of 20_memory.md: what a bus write stores and leaves alone (R63), what a program load puts in the cartridge
region (R75). -/

namespace Sys2Proof.Machine

/-! ### The bus write (20_memory.md R63), in terms of routing -/

/-- A stored byte reads back at every address routed to the same byte. -/
theorem State.busRead_busWrite_of_route_eq {s : State} (hm : s.mem.wf = true) {a b : Word} (v : Byte) (ha : route a ≠ none)
    (h : route b = route a) : (s.busWrite a v).busRead b = v :=
  State.busRead_busWrite_self hm v ((cellKey_eq_iff b a).2 h) (by simpa [cellKey] using ha)

/-- An address routed to another byte reads as before. -/
theorem State.busRead_busWrite_of_route_ne (s : State) {a b : Word} (v : Byte) (h : route b ≠ route a) :
    (s.busWrite a v).busRead b = s.busRead b :=
  s.busRead_busWrite_of_ne v (mt (cellKey_eq_iff b a).1 h)

/-- A write that routing sends nowhere is discarded. -/
theorem State.busWrite_of_route_none (s : State) {a : Word} (v : Byte) (h : route a = none) : s.busWrite a v = s :=
  State.busWrite_of_none (by simp [cellKey, h]) v

/-- Settles O4: the byte stored, the bytes kept and the discarded write are the three lemmas above; the rest of the state is kept by the
frame lemmas of `busWrite`. -/
theorem busWriteStoresOneByte : Obligations.BusWriteStoresOneByte := by
  intro s a v hm
  have hnone : route a = none ↔ 0xFEA0 ≤ a.toNat ∧ a.toNat ≤ 0xFEFF := by
    rw [route_eq_none_iff]
    omega
  exact ⟨fun ha => State.busRead_busWrite_of_route_eq hm v ha rfl, fun ha _ => State.busRead_busWrite_of_route_eq hm v ha,
    fun _ => s.busRead_busWrite_of_route_ne v, hnone, s.busWrite_of_route_none v, s.busWrite_cpu a v, s.busWrite_video a v,
    s.busWrite_buttons a v, s.busWrite_frameCyc a v⟩

/-! ### The program load (20_memory.md R75) -/

/-- The cartridge region after a load, by offset: the image's byte, or `MEM_INIT` past its end. -/
theorem State.busRead_busLoadProgram_ofNat (s : State) (img : List Byte) {i : Nat} (hi : i < Config.romBytes) :
    (s.busLoadProgram img).busRead (BitVec.ofNat 16 i) = img.getD i memInit := by
  have hn : (BitVec.ofNat 16 i).toNat = i := Nat.mod_eq_of_lt (hi.trans (by decide))
  rw [State.busRead_busLoadProgram, hn, if_pos hi]

/-- A load leaves every address outside the cartridge region alone. -/
theorem State.busRead_busLoadProgram_of_le (s : State) (img : List Byte) {a : Word} (ha : Config.romBytes ≤ a.toNat) :
    (s.busLoadProgram img).busRead a = s.busRead a := by
  rw [State.busRead_busLoadProgram, if_neg ha.not_gt]

/-- Settles O7: an offset in the cartridge region lies either inside the image or past its end, where the image's default byte is read;
the other regions and sub-blocks are kept by the frame lemmas of `busLoadProgram`. -/
theorem loadProgramRewritesCartridge : Obligations.LoadProgramRewritesCartridge := by
  refine fun s img => ⟨fun i hi _ => s.busRead_busLoadProgram_ofNat img hi, fun i hi hlen => ?_,
    fun a => s.busRead_busLoadProgram_of_le img, s.busLoadProgram_cpu img, s.busLoadProgram_video img, s.busLoadProgram_buttons img,
    s.busLoadProgram_frameCyc img⟩
  rw [s.busRead_busLoadProgram_ofNat img hi, List.getD_eq_default _ _ hlen]
  rfl

end Sys2Proof.Machine
end

section
/-! PROOFS. The statements of 50_video_unit.md: what rendering one line writes to the framebuffer (R187). -/

namespace Sys2Proof.Machine

/-! ### The bytes of a row of the framebuffer (10_state.md R33) -/

/-- A byte of a rendered row is a component of the palette colour of its pixel. -/
theorem FrameBuffer.byteAt_of_row_eq_some {fb : FrameBuffer} {y : Nat} {r : List Colour} (h : FrameBuffer.row fb y = some r) {x k : Nat}
    (hx : x < 160) (hk : k < 4) :
    FrameBuffer.byteAt fb (4 * (160 * y + x) + k) = Rgba.component (Config.palette (r.getD x 0)) k := by
  have hpixel : (4 * (160 * y + x) + k) / 4 = 160 * y + x := by omega
  have hcomponent : (4 * (160 * y + x) + k) % 4 = k := by omega
  have hrow : (160 * y + x) / 160 = y := by omega
  have hcolumn : (160 * y + x) % 160 = x := by omega
  simp only [FrameBuffer.byteAt, hpixel, hcomponent, hrow, hcolumn, h]

/-- A byte depends on the framebuffer through its own row alone; a row takes 640 bytes. -/
theorem FrameBuffer.byteAt_congr {fb fb' : FrameBuffer} {i : Nat} (h : FrameBuffer.row fb (i / 640) = FrameBuffer.row fb' (i / 640)) :
    FrameBuffer.byteAt fb i = FrameBuffer.byteAt fb' i := by
  have hrow : i / 4 / 160 = i / 640 := Nat.div_div_eq_div_mul i 4 160
  simp only [FrameBuffer.byteAt, hrow, h]

/-- Putting a row in place keeps every byte of the other rows. -/
theorem FrameBuffer.byteAt_setRow_of_ne (fb : FrameBuffer) {y i : Nat} (r : List Colour) (h : i / 640 ≠ y) :
    FrameBuffer.byteAt (FrameBuffer.setRow fb y r) i = FrameBuffer.byteAt fb i :=
  FrameBuffer.byteAt_congr (FrameBuffer.row_setRow_of_ne fb r h)

/-! ### Rendering one line (50_video_unit.md R187) -/

theorem State.getD_renderedRow (s : State) (y : Nat) {x : Nat} (hx : x < 160) : (s.renderedRow y).getD x 0 = s.pixelColour y x := by
  simp [State.renderedRow, hx]

theorem State.renderScanline_fb {s : State} (h : s.lcdEnabled = true) :
    s.renderScanline.video.fb = FrameBuffer.setRow s.video.fb s.video.line (s.renderedRow s.video.line) := by
  rw [State.renderScanline, if_pos h, State.setVideo_video]

/-- Rendering changes nothing but the framebuffer, whether the LCD is on or off (50_video_unit.md R188). -/
theorem State.renderScanline_eq (s : State) :
    s.renderScanline = { s with video := { s.video with fb := s.renderScanline.video.fb } } := by
  unfold State.renderScanline
  split <;> rfl

/-- With the LCD on, the line's 160 pixels hold their palette colours. -/
theorem State.byteAt_renderScanline {s : State} (h : s.lcdEnabled = true) {x k : Nat} (hx : x < 160) (hk : k < 4) :
    FrameBuffer.byteAt s.renderScanline.video.fb (4 * (160 * s.video.line + x) + k) =
      Rgba.component (Config.palette (s.pixelColour s.video.line x)) k := by
  have hrow : FrameBuffer.row s.renderScanline.video.fb s.video.line = some (s.renderedRow s.video.line) := by
    rw [State.renderScanline_fb h, FrameBuffer.row_setRow_self]
  rw [FrameBuffer.byteAt_of_row_eq_some hrow hx hk, s.getD_renderedRow _ hx]

/-- With the LCD on, rendering keeps every byte of the other rows. -/
theorem State.byteAt_renderScanline_of_ne {s : State} (h : s.lcdEnabled = true) {i : Nat} (hi : i / 640 ≠ s.video.line) :
    FrameBuffer.byteAt s.renderScanline.video.fb i = FrameBuffer.byteAt s.video.fb i := by
  rw [State.renderScanline_fb h, FrameBuffer.byteAt_setRow_of_ne _ _ hi]

/-- Settles O48: the row written, the rows kept and the frame are the three lemmas above, which hold of every line number. -/
theorem renderWritesOneRow : Obligations.RenderWritesOneRow :=
  fun s hon _ => ⟨fun _ _ => State.byteAt_renderScanline hon, fun _ => State.byteAt_renderScanline_of_ne hon, s.renderScanline_eq⟩

end Sys2Proof.Machine
end
section
/-! PROOFS. The statements of 30_encoding.md: decoder and encoder are inverse (R100 to R107), the fallback space (R106), the assembler
(R109). -/

namespace Sys2Proof

/-! ### The decoder by its first byte -/

/-- The decoder on a list with an opcode byte (30_encoding.md R101). -/
theorem decode_cons (b0 : Byte) (tail : List Byte) : decode (b0 :: tail) =
    if (decodeBytes b0 (tail.getD 0 0) (tail.getD 1 0)).length ≤ 1 + tail.length
    then .ok (decodeBytes b0 (tail.getD 0 0) (tail.getD 1 0),
      tail.drop ((decodeBytes b0 (tail.getD 0 0) (tail.getD 1 0)).length - 1))
    else .error .truncated := rfl

theorem Instr.length_sub_one (i : Instr) : i.length - 1 = i.operandBytes.length := Nat.add_sub_cancel_left ..

/-- No instruction is longer than three bytes (30_encoding.md R100). -/
theorem length_decodeBytes_le (b0 b1 b2 : Byte) : (decodeBytes b0 b1 b2).length ≤ 3 := by
  have h := congrArg List.length (operandBytes_decodeBytes b0 b1 b2)
  rw [List.length_take, ← Instr.length_sub_one] at h
  simp only [List.length_cons, List.length_nil] at h
  omega

/-- The decoder reads an encoding back, with the bytes after it. -/
theorem decode_encode_append (i : Instr) (rest : List Byte) : decode (i.encode ++ rest) = .ok (i, rest) := by
  have hlen : i.length ≤ 1 + (i.operandBytes ++ rest).length := by simp [Instr.length]
  rw [Instr.encode, List.cons_append, decode_cons, decodeBytes_encode, if_pos hlen, Instr.length_sub_one, List.drop_left]

theorem decode_encode (i : Instr) : decode i.encode = .ok (i, []) := by
  simpa using decode_encode_append i []

/-- Settles O9: the operand bytes give the instruction back (`decodeBytes_encode`), and its length drops exactly them. -/
theorem decodeInvertsEncode : Obligations.DecodeInvertsEncode := decode_encode_append

/-- The operand bytes that a decoder takes from a list that has them are the list's own. -/
theorem take_getD_two (tail : List Byte) {n : Nat} (h : n ≤ tail.length) (h₂ : n ≤ 2) :
    [tail.getD 0 0, tail.getD 1 0].take n = tail.take n := by
  match tail, n, h, h₂ with
  | _, 0, _, _ => rfl
  | _ :: _, 1, _, _ => rfl
  | _ :: _ :: _, 2, _, _ => rfl

/-- Settles O10: the opcode byte is the first byte, the operand bytes are those taken, and the rest is what was dropped. -/
theorem encodeInvertsDecode : Obligations.EncodeInvertsDecode := by
  intro bytes rest i h
  cases bytes with
  | nil => cases h
  | cons b0 tail =>
    rw [decode_cons] at h
    split at h
    · next hlen =>
      cases h
      have htake := take_getD_two tail (Nat.sub_le_iff_le_add'.2 hlen)
        (Nat.sub_le_of_le_add (length_decodeBytes_le b0 (tail.getD 0 0) (tail.getD 1 0)))
      rw [Instr.encode, decodeBytes_opcode, operandBytes_decodeBytes, htake, List.cons_append, List.take_append_drop]
    · cases h

/-- Settles O11: three bytes are enough for every instruction, and `decode` has only two refusals, one for each way to be too short. -/
theorem decodeIsTotal : Obligations.DecodeIsTotal := by
  refine ⟨fun b0 b1 b2 rest => ⟨decodeBytes b0 b1 b2, (b1 :: b2 :: rest).drop ((decodeBytes b0 b1 b2).length - 1), ?_,
    decodeBytes_opcode b0 b1 b2⟩, fun bytes e h => ?_⟩
  · have hlen : (decodeBytes b0 b1 b2).length ≤ 1 + (b1 :: b2 :: rest).length :=
      (length_decodeBytes_le b0 b1 b2).trans (by simp only [List.length_cons]; omega)
    rw [decode_cons]
    exact if_pos hlen
  · cases bytes with
    | nil =>
      cases h
      exact .inl ⟨rfl, rfl⟩
    | cons b0 tail =>
      rw [decode_cons, length_decodeBytes b0 _ _ 0 0] at h
      split at h
      · cases h
      · next hlen =>
        cases h
        exact .inr ⟨rfl, b0, tail, rfl, by omega⟩

/-! ### Lengths and operands, opcode by opcode -/

/-- Settles O12: one row of the table for each constructor. -/
theorem lengthFollowsOpcode : Obligations.LengthFollowsOpcode := by
  intro i
  cases i <;> rfl

/-- The opcode bytes that take operands are defined ones. -/
theorem operand_opcodes_subset : [0x06#8, 0x0E#8, 0x16#8, 0x1E#8, 0x26#8, 0x2E#8, 0x3E#8] ⊆ definedOpcodes ∧
    [0xEA#8, 0xFA#8, 0xC3#8, 0xCD#8] ⊆ definedOpcodes := by decide

/-- A fallback instruction has no operand: its opcode is none of the eleven that take some (30_encoding.md R106, R107). -/
theorem Instr.operandBytes_of_isFallback {i : Instr} (h : i.isFallback = true) : i.operandBytes = [] := by
  have hop : i.opcode ∉ definedOpcodes := by simpa [Instr.isFallback] using h
  have hlen := lengthFollowsOpcode i
  rw [if_neg (mt (operand_opcodes_subset.1 ·) hop), if_neg (mt (operand_opcodes_subset.2 ·) hop), Instr.length] at hlen
  exact List.eq_nil_of_length_eq_zero (by omega)

theorem Instr.encode_of_isFallback {i : Instr} (h : i.isFallback = true) : i.encode = [i.opcode] := by
  rw [Instr.encode, Instr.operandBytes_of_isFallback h]

/-- A byte decodes to a fallback instruction when it is none of the defined ones (30_encoding.md R106). -/
theorem isFallback_decodeBytes_iff (b0 b1 b2 : Byte) : (decodeBytes b0 b1 b2).isFallback = true ↔ b0 ∉ definedOpcodes := by
  simp [Instr.isFallback, decodeBytes_opcode]

/-- Settles O13: the decoded instruction has that opcode byte, and a fallback instruction has no other byte. -/
theorem fallbackBytesDecode : Obligations.FallbackBytesDecode := by
  refine fun b0 b1 b2 => ⟨isFallback_decodeBytes_iff b0 b1 b2, fun h => ?_⟩
  rw [Instr.encode_of_isFallback h, decodeBytes_opcode]

/-- Settles O14: the address is `word16` of the two bytes, and each row of the opcode map holds its operand as it is. -/
theorem immediatesLittleEndian : Obligations.ImmediatesLittleEndian :=
  fun b1 b2 => ⟨word16 b2 b1, word16_toNat b2 b1, rfl, rfl, rfl, rfl, rfl, rfl, rfl, rfl, rfl, rfl, rfl⟩

/-- Settles O8: twelve closed words, decoded by computation. -/
theorem decodeSampleWords : Obligations.DecodeSampleWords :=
  ⟨rfl, rfl, rfl, rfl, rfl, rfl, rfl, rfl, rfl, rfl, rfl, rfl⟩

/-! ### The assembler (30_encoding.md R109) -/

theorem Asm.assemble_of_wellFormed {line : Asm} (h : line.wellFormed = true) : line.assemble = some line.bytes := if_pos h

theorem Asm.assemble_eq_none_iff (line : Asm) : line.assemble = none ↔ line.wellFormed = false := by
  simp [Asm.assemble]

/-- The numbers of the defined opcode bytes, as the assembler's lines write them. -/
theorem ofNat_mem_definedOpcodes_iff {n : Nat} (h : n < 256) : BitVec.ofNat 8 n ∈ definedOpcodes ↔
    n ∈ [0x00, 0x06, 0x0E, 0x16, 0x1E, 0x26, 0x2E, 0x3E, 0x76, 0xAF, 0xC3, 0xC9, 0xCD, 0xEA, 0xFA] := by
  have hn : (BitVec.ofNat 8 n).toNat = n := Nat.mod_eq_of_lt h
  rw [← List.mem_map_of_injective BitVec.toNat_injective, hn]
  rfl

/-- The check of a `.fallback` line refuses the defined bytes and the numbers that are no byte (30_encoding.md R106). -/
theorem Asm.wellFormed_fallback_eq_false_iff (n : Nat) : (Asm.fallback n).wellFormed = false ↔
    256 ≤ n ∨ n ∈ [0x00, 0x06, 0x0E, 0x16, 0x1E, 0x26, 0x2E, 0x3E, 0x76, 0xAF, 0xC3, 0xC9, 0xCD, 0xEA, 0xFA] := by
  by_cases h : n < 256
  · simp only [← ofNat_mem_definedOpcodes_iff h, Asm.wellFormed, h, h.not_ge]
    simp
  · simp [Asm.wellFormed, not_lt.1 h]

/-- The lines that the check refuses, line by line (30_encoding.md R105, R106, R109). -/
theorem Asm.wellFormed_eq_false_iff (line : Asm) : line.wellFormed = false ↔
    (∃ n, line = .ldImm .f n) ∨ (∃ r n, line = .ldImm r n ∧ 256 ≤ n) ∨
    (∃ n, 65536 ≤ n ∧ (line = .storeA n ∨ line = .loadA n ∨ line = .jp n ∨ line = .call n)) ∨
    (∃ n, line = .fallback n ∧ (256 ≤ n ∨
      n ∈ [0x00, 0x06, 0x0E, 0x16, 0x1E, 0x26, 0x2E, 0x3E, 0x76, 0xAF, 0xC3, 0xC9, 0xCD, 0xEA, 0xFA])) := by
  cases line
  case fallback n => simpa using Asm.wellFormed_fallback_eq_false_iff n
  case ldImm r n => simp [Asm.wellFormed, imp_iff_not_or]
  all_goals simp [Asm.wellFormed]

/-- A well-formed line whose bytes are an instruction's encoding decodes to that instruction. -/
theorem Asm.assemble_decode {line : Asm} {i : Instr} (h : line.wellFormed = true) (hb : line.bytes = i.encode) :
    ∃ bytes, line.assemble = some bytes ∧ decode bytes = .ok (i, []) :=
  ⟨i.encode, by rw [Asm.assemble_of_wellFormed h, hb], decode_encode i⟩

/-- The two operand bytes that the assembler emits are the operand's (20_memory.md R70). -/
theorem operandBytes_ofNat (n : Nat) : [BitVec.ofNat 8 n, BitVec.ofNat 8 (n / 256)] =
    [loByte (BitVec.ofNat 16 n), hiByte (BitVec.ofNat 16 n)] := by
  have hlo : BitVec.ofNat 8 n = loByte (BitVec.ofNat 16 n) := by
    apply BitVec.eq_of_toNat_eq
    rw [loByte_toNat, BitVec.toNat_ofNat, BitVec.toNat_ofNat]
    omega
  have hhi : BitVec.ofNat 8 (n / 256) = hiByte (BitVec.ofNat 16 n) := by
    apply BitVec.eq_of_toNat_eq
    rw [hiByte_toNat, BitVec.toNat_ofNat, BitVec.toNat_ofNat]
    omega
  rw [hlo, hhi]

/-- Settles O15: the refused lines by the check's own cases; an accepted line's bytes are the encoding of the instruction it names, which
decodes (`decode_encode`). -/
theorem assemblerAgreesWithDecoder : Obligations.AssemblerAgreesWithDecoder := by
  refine ⟨fun line => (Asm.assemble_eq_none_iff line).2,
    fun line => (Asm.assemble_eq_none_iff line).trans (Asm.wellFormed_eq_false_iff line), fun r n hr hn => ?_, fun n hn => ?_,
    fun line hline => ?_, fun n hn hdef => ?_⟩
  · have hw : (Asm.ldImm r n).wellFormed = true := by simp [Asm.wellFormed, hr, hn]
    refine ⟨_, _, Asm.assemble_of_wellFormed hw, ?_, rfl⟩
    cases r
    case f => exact absurd rfl hr
    all_goals rfl
  · have ha16 := operandBytes_ofNat n
    refine ⟨?_, ?_, ?_, ?_⟩ <;>
      exact Asm.assemble_decode (decide_eq_true hn) (congrArg _ ha16)
  · simp only [List.mem_cons, List.not_mem_nil, or_false] at hline
    rcases hline with rfl | rfl | rfl | rfl
    · exact ⟨_, .nop, rfl, rfl, by simp⟩
    · exact ⟨_, .ret, rfl, rfl, by simp⟩
    · exact ⟨_, .xorA, rfl, rfl, by simp⟩
    · exact ⟨_, .halt, rfl, rfl, by simp⟩
  · have hfall := (isFallback_decodeBytes_iff (BitVec.ofNat 8 n) 0 0).2 hdef
    have henc := Instr.encode_of_isFallback hfall
    rw [decodeBytes_opcode] at henc
    refine ⟨decodeBytes (BitVec.ofNat 8 n) 0 0, Asm.assemble_of_wellFormed ?_, ?_, hfall⟩
    · simp [Asm.wellFormed, hn, hdef]
    · rw [← henc]
      exact decode_encode _

end Sys2Proof
end
section
/-! PROOFS. `Cpu.step` and the machine step, as one layer: what each leaves alone and what it charges (30_encoding.md R101;
52_machine_loop.md R217). -/

namespace Sys2Proof.Machine

/-! ### `Cpu.step` -/

/-- The inversion of `Cpu.step`: the idle charge, or the fetched instruction's effect and its charge. -/
theorem State.cpuStep_inv {s t : State} (h : s.cpuStep = .next t) :
    (s.cpu.halted = true ∧ t = s.charge s.cpuCost) ∨
    (s.cpu.halted = false ∧ ∃ u, Effect s s.fetch u ∧ t = u.charge s.cpuCost) := by
  rcases s.cpuStep_cases with ⟨hh, hc⟩ | ⟨hh, u, hu, hc⟩
  · exact .inl ⟨hh, Host.Outcome.next.inj (h.symm.trans hc)⟩
  · exact .inr ⟨hh, u, effect_of_exec hu, Host.Outcome.next.inj (h.symm.trans hc)⟩

/-- `Cpu.step` reaches no other sub-block, and `TCOUNT` grows by the cost it returns. -/
theorem State.cpuStep_frame {s t : State} (h : s.cpuStep = .next t) :
    t.video = s.video ∧ t.buttons = s.buttons ∧ t.frameCyc = s.frameCyc ∧ t.cpu.tcount = s.cpu.tcount + s.cpuCost.toNat := by
  rcases State.cpuStep_inv h with ⟨-, rfl⟩ | ⟨-, u, he, rfl⟩
  · exact ⟨rfl, rfl, rfl, rfl⟩
  · obtain ⟨hv, hb, hf, ht⟩ := he.frame
    exact ⟨hv, hb, hf, by rw [State.charge_cpu_tcount, ht]⟩

theorem State.wf_cpuStep {s t : State} (hm : s.mem.wf = true) (h : s.cpuStep = .next t) : t.mem.wf = true := by
  rcases State.cpuStep_inv h with ⟨-, rfl⟩ | ⟨-, u, he, rfl⟩
  · exact hm
  · exact he.wf hm

/-- `Cpu.step` keeps F, but for an XOR A, which leaves 0x80 in it (10_state.md R27, R28). -/
theorem State.cpuStep_f {s t : State} (h : s.cpuStep = .next t) :
    t.cpu.f = s.cpu.f ∨ (s.cpu.halted = false ∧ s.fetch = .xorA ∧ t.cpu.f = 0x80) := by
  rcases State.cpuStep_inv h with ⟨-, rfl⟩ | ⟨hh, u, he, rfl⟩
  · exact .inl rfl
  · by_cases hx : s.fetch = .xorA
    · rw [hx] at he
      cases he
      case xorA => exact .inr ⟨hh, hx, rfl⟩
      case noOp hi => exact absurd hi (by decide)
      case ldImm hi => cases hi
    · exact .inl (he.cpu_f hx)

/-- An instruction changes only the bytes that the store or the two pushes of a CALL reach. -/
theorem Effect.busRead_of_route_ne {s t : State} {i : Instr} (h : Effect s i t) {b : Word}
    (hstore : ∀ a, i = .storeA a → route b ≠ route a)
    (hcall : ∀ a, i = .call a → route b ≠ route (s.cpu.sp - 1) ∧ route b ≠ route (s.cpu.sp - 2)) : t.busRead b = s.busRead b := by
  cases h
  case storeA a => exact (s.advance 3).busRead_busWrite_of_route_ne _ (hstore a rfl)
  case call a =>
    obtain ⟨h₁, h₂⟩ := hcall a rfl
    exact (s.advance 3).busRead_pushWord_of_ne _ (mt (cellKey_eq_iff _ _).1 h₁) (mt (cellKey_eq_iff _ _).1 h₂)
  all_goals simp

/-- `Cpu.step` changes only the bytes that its instruction stores. -/
theorem State.busRead_cpuStep_of_route_ne {s t : State} (h : s.cpuStep = .next t) {b : Word}
    (hstore : ∀ a, s.fetch = .storeA a → route b ≠ route a)
    (hcall : ∀ a, s.fetch = .call a → route b ≠ route (s.cpu.sp - 1) ∧ route b ≠ route (s.cpu.sp - 2)) :
    t.busRead b = s.busRead b := by
  rcases State.cpuStep_inv h with ⟨-, rfl⟩ | ⟨-, u, he, rfl⟩
  · exact s.busRead_charge _ b
  · exact (u.busRead_charge _ b).trans (he.busRead_of_route_ne hstore hcall)

/-! ### The machine step -/

/-- A machine step is `Cpu.step`, then the two other sub-blocks. -/
theorem step_eq_afterCpu {s v : State} (h : step s = .next v) : ∃ t, s.cpuStep = .next t ∧ v = s.afterCpu t := by
  obtain ⟨t, ht, hv, -⟩ := step_cases s
  exact ⟨t, ht, Host.Outcome.next.inj (h.symm.trans hv)⟩

/-- A machine step never changes a button, and `TCOUNT` grows by its cost. -/
theorem step_frame {s v : State} (h : step s = .next v) :
    v.buttons = s.buttons ∧ v.cpu.tcount = s.cpu.tcount + s.cpuCost.toNat ∧ v.frameCyc = nextFrameCyc s.frameCyc s.cpuCost := by
  obtain ⟨t, ht, rfl⟩ := step_eq_afterCpu h
  obtain ⟨-, hb, -, hc⟩ := State.cpuStep_frame ht
  exact ⟨by rw [State.afterCpu_buttons, hb], by rw [State.afterCpu_cpu, hc], rfl⟩

/-- A running machine's step, from what `exec` answers for the fetched instruction. -/
theorem step_of_exec {s t : State} (hrun : s.cpu.halted = false) (h : exec s.fetch s = .next t) :
    step s = .next (s.afterCpu (t.charge s.cpuCost)) :=
  step_of_cpuStep (by simp [State.cpuStep, hrun, h])

end Sys2Proof.Machine
end

section
/-! PROOFS. The statements of 50_video_unit.md about `Vid.step`: the scanline loop as an iteration of one crossing, its closed form (R171,
R172, R178), its splitting (R173), and the frame-complete bit of a machine step (52_machine_loop.md R219). -/

namespace Sys2Proof.Machine

/-! ### The loop is an iterated crossing -/

/-- One more crossing, from a state and the bit of the crossings before it. -/
def State.crossNext (p : State × Bool) : State × Bool := (p.1.crossLine.1, p.2 || p.1.crossLine.2)

/-- The loop crosses as often as it may, where `ACC` holds the cycles for it. -/
theorem State.vidLoop_eq_iterate (n : Nat) (s : State) (fc : Bool) (h : n ≤ s.video.acc / 456) :
    State.vidLoop n s fc = State.crossNext^[n] (s, fc) := by
  induction n generalizing s fc with
  | zero => rfl
  | succ n ih =>
    have hle : 456 ≤ s.video.acc := by omega
    have hrest : n ≤ s.crossLine.1.video.acc / 456 := by
      simp only [State.crossLine_acc, Config.scanlineCycles]
      omega
    rw [State.vidLoop, if_pos hle, ih _ _ hrest, Function.iterate_succ_apply]
    rfl

/-- `Vid.step` adds the cycles and crosses (ACC + c) div 456 boundaries (50_video_unit.md R172). -/
theorem State.vidStep_eq_iterate (s : State) (c : Cycles) :
    s.vidStep c = State.crossNext^[(s.video.acc + c.toNat) / 456] (s.addCycles c.toNat, false) :=
  State.vidLoop_eq_iterate _ _ _ (Nat.le_refl _)

theorem State.crossLine_snd_iff (s : State) : s.crossLine.2 = true ↔ (s.video.line + 1) % 154 = 144 := by
  rcases s.crossLine_cases with ⟨hl, h⟩ | ⟨hl, h⟩ | ⟨hl, h⟩
  · rw [h]
    exact iff_of_false Bool.false_ne_true hl.ne
  · rw [h]
    exact iff_of_true rfl hl
  · rw [h]
    exact iff_of_false Bool.false_ne_true hl.ne'

/-- Each crossing takes a scanline's cycles off `ACC`. -/
theorem State.iterate_crossNext_acc (n : Nat) (p : State × Bool) :
    (State.crossNext^[n] p).1.video.acc = p.1.video.acc - 456 * n := by
  induction n with
  | zero => rfl
  | succ n ih =>
    rw [Function.iterate_succ_apply', State.crossNext, State.crossLine_acc, ih, Config.scanlineCycles]
    omega

/-- Each crossing moves to the next line, modulo 154 (50_video_unit.md R171). -/
theorem State.iterate_crossNext_line (n : Nat) {p : State × Bool} (h : p.1.video.line < 154) :
    (State.crossNext^[n] p).1.video.line = (p.1.video.line + n) % 154 := by
  induction n with
  | zero => exact (Nat.mod_eq_of_lt h).symm
  | succ n ih =>
    rw [Function.iterate_succ_apply', State.crossNext, State.crossLine_line, ih, Config.linesPerFrame]
    omega

/-- The bit after `n` crossings: it was set, or one of the lines entered is 144 (50_video_unit.md R178). -/
theorem State.iterate_crossNext_snd_iff (n : Nat) {p : State × Bool} (h : p.1.video.line < 154) :
    (State.crossNext^[n] p).2 = true ↔ p.2 = true ∨ ∃ k, 1 ≤ k ∧ k ≤ n ∧ (p.1.video.line + k) % 154 = 144 := by
  induction n with
  | zero => exact (or_iff_left fun ⟨k, h₁, h₂, _⟩ => absurd (h₁.trans h₂) (by decide)).symm
  | succ n ih =>
    have hlast : ((p.1.video.line + n) % 154 + 1) % 154 = 144 ↔ (p.1.video.line + (n + 1)) % 154 = 144 := by omega
    rw [Function.iterate_succ_apply', State.crossNext, Bool.or_eq_true, ih, State.crossLine_snd_iff,
      State.iterate_crossNext_line n h, hlast, or_assoc]
    refine or_congr_right ⟨?_, ?_⟩
    · rintro (⟨k, h₁, h₂, hk⟩ | hk)
      · exact ⟨k, h₁, h₂.trans n.le_succ, hk⟩
      · exact ⟨n + 1, n.succ_pos, Nat.le_refl _, hk⟩
    · rintro ⟨k, h₁, h₂, hk⟩
      rcases Nat.le_or_eq_of_le_succ h₂ with hle | rfl
      · exact .inl ⟨k, h₁, hle, hk⟩
      · exact .inr hk

/-! ### The closed form -/

theorem State.vidStep_acc (s : State) (c : Cycles) : (s.vidStep c).1.video.acc = (s.video.acc + c.toNat) % 456 :=
  State.vidLoop_acc _ (s.addCycles c.toNat) false (Nat.le_refl _)

theorem State.vidStep_line {s : State} (h : s.video.line < 154) (c : Cycles) :
    (s.vidStep c).1.video.line = (s.video.line + (s.video.acc + c.toNat) / 456) % 154 := by
  rw [State.vidStep_eq_iterate]
  exact State.iterate_crossNext_line _ h

theorem State.vidStep_snd_iff {s : State} (h : s.video.line < 154) (c : Cycles) : (s.vidStep c).2 = true ↔
    ∃ k, 1 ≤ k ∧ k ≤ (s.video.acc + c.toNat) / 456 ∧ (s.video.line + k) % 154 = 144 := by
  rw [State.vidStep_eq_iterate]
  exact (State.iterate_crossNext_snd_iff _ h).trans (by simp [State.addCycles])

/-- Settles O42: the three components of the iterated crossing. -/
theorem vidStepClosedForm : Obligations.VidStepClosedForm :=
  fun s c h => ⟨s.vidStep_acc c, State.vidStep_line h c, State.vidStep_snd_iff h c⟩

/-- Settles O58: no crossing, or one. -/
theorem vidStepCrossesOneLine : Obligations.VidStepCrossesOneLine := by
  refine fun s c => ⟨fun h => ?_, fun h₁ h₂ => ?_⟩
  · rw [State.vidStep_eq_iterate, Nat.div_eq_of_lt h, Function.iterate_zero_apply]
    rfl
  · have hone : (s.video.acc + c.toNat) / 456 = 1 := by omega
    rw [State.vidStep_eq_iterate, hone, Function.iterate_one, State.crossNext, Bool.false_or]
    rfl

/-! ### Splitting a count (50_video_unit.md R173) -/

/-- Cycles that arrive before a crossing may as well arrive after it, where `ACC` holds the cycles for the crossing: no part of a
crossing but the subtraction looks at `ACC`. -/
theorem State.nextLine_addCycles {s : State} (b : Nat) (h : 456 ≤ s.video.acc) :
    (s.addCycles b).nextLine = s.nextLine.addCycles b := by
  have hacc : s.video.acc + b - 456 = s.video.acc - 456 + b := by omega
  simp only [State.nextLine, State.addCycles, State.setVideo, State.busWrite, Config.scanlineCycles, hacc]

theorem State.renderScanline_addCycles (s : State) (b : Nat) :
    (s.addCycles b).renderScanline = s.renderScanline.addCycles b := by
  have hon : (s.addCycles b).lcdEnabled = s.lcdEnabled := rfl
  unfold State.renderScanline
  rw [hon]
  split <;> rfl

theorem State.raiseIf_addCycles (s : State) (b : Nat) (mask : Byte) : (s.addCycles b).raiseIf mask = (s.raiseIf mask).addCycles b := rfl

theorem State.crossLine_addCycles {s : State} (b : Nat) (h : 456 ≤ s.video.acc) :
    (s.addCycles b).crossLine = (s.crossLine.1.addCycles b, s.crossLine.2) := by
  have hline : (s.nextLine.addCycles b).video.line = s.nextLine.video.line := rfl
  simp only [State.crossLine, State.nextLine_addCycles b h, hline]
  split
  · rw [State.renderScanline_addCycles]
  · split
    · rw [State.raiseIf_addCycles]
    · rfl

/-- The same for several crossings. -/
theorem State.iterate_crossNext_addCycles (n : Nat) {p : State × Bool} (b : Nat) (h : 456 * n ≤ p.1.video.acc) :
    State.crossNext^[n] (p.1.addCycles b, p.2) = ((State.crossNext^[n] p).1.addCycles b, (State.crossNext^[n] p).2) := by
  induction n with
  | zero => rfl
  | succ n ih =>
    have hacc : 456 ≤ (State.crossNext^[n] p).1.video.acc := by
      rw [State.iterate_crossNext_acc]
      omega
    rw [Function.iterate_succ_apply', ih (by omega), Function.iterate_succ_apply', State.crossNext, State.crossLine_addCycles b hacc]
    rfl

/-- The bit of the crossings before is only carried along. -/
theorem State.iterate_crossNext_bit (n : Nat) (s : State) (fc : Bool) :
    State.crossNext^[n] (s, fc) = ((State.crossNext^[n] (s, false)).1, fc || (State.crossNext^[n] (s, false)).2) := by
  induction n with
  | zero => simp
  | succ n ih => rw [Function.iterate_succ_apply', ih, Function.iterate_succ_apply', State.crossNext, State.crossNext, Bool.or_assoc]

/-- Settles O43: the crossings of the first count come first, the second count's cycles may arrive after them, and the two numbers of
crossings add up. -/
theorem vidStepSplits : Obligations.VidStepSplits := by
  intro s a b hab
  have hsum : (a + b).toNat = a.toNat + b.toNat := by rw [BitVec.toNat_add, Nat.mod_eq_of_lt hab]
  have hadd : s.addCycles (a + b).toNat = (s.addCycles a.toNat).addCycles b.toNat := by
    simp only [State.addCycles, State.setVideo, hsum, Nat.add_assoc]
  have hcount : (s.video.acc + (a + b).toNat) / 456 =
      ((s.vidStep a).1.video.acc + b.toNat) / 456 + (s.video.acc + a.toNat) / 456 := by
    rw [State.vidStep_acc, hsum]
    omega
  have hfirst : State.crossNext^[(s.video.acc + a.toNat) / 456] ((s.addCycles a.toNat).addCycles b.toNat, false) =
      ((s.vidStep a).1.addCycles b.toNat, (s.vidStep a).2) := by
    rw [State.vidStep_eq_iterate s a]
    exact State.iterate_crossNext_addCycles _ (p := (s.addCycles a.toNat, false)) b.toNat (Nat.mul_div_le ..)
  rw [State.vidStep_eq_iterate s (a + b), hcount, Function.iterate_add_apply, hadd, hfirst, State.iterate_crossNext_bit,
    ← State.vidStep_eq_iterate]

/-! ### The frame-complete bit of a machine step (52_machine_loop.md R219) -/

theorem State.machineStep_inv {s : State} {m : MachineStep} (h : s.machineStep = .next m) : ∃ t, s.cpuStep = .next t ∧
    m = ⟨(t.joyUpdate.vidStep s.cpuCost).1, s.cpuCost, (t.joyUpdate.vidStep s.cpuCost).2⟩ := by
  obtain ⟨t, ht, -⟩ := step_cases s
  simp only [State.machineStep, ht] at h
  exact ⟨t, ht, (Host.Outcome.next.inj h).symm⟩

/-- A machine step crosses at most one boundary (50_video_unit.md R173). -/
theorem State.crossings_le_one {s : State} (h : s.video.acc < 456) : (s.video.acc + s.cpuCost.toNat) / 456 ≤ 1 := by
  have := s.cpuCost_bounds.2
  omega

/-- Settles O50: at most one line is entered, and it is 144 exactly from line 143. -/
theorem frameCompleteAtLine144 : Obligations.FrameCompleteAtLine144 := by
  intro s m hacc hline h
  obtain ⟨t, ht, rfl⟩ := State.machineStep_inv h
  have hv : t.joyUpdate.video = s.video := t.joyUpdate_video.trans (State.cpuStep_frame ht).1
  have hlt : t.joyUpdate.video.line < 154 := hv ▸ hline
  have hle := State.crossings_le_one hacc
  refine ⟨rfl, (State.vidStep_snd_iff hlt _).trans ?_⟩
  rw [State.vidStep_line hlt, hv]
  constructor
  · rintro ⟨k, h₁, h₂, hk⟩
    omega
  · rintro ⟨h143, h144⟩
    exact ⟨1, by omega, by omega, by omega⟩

end Sys2Proof.Machine
end

section
/-! PROOFS. The invariants: what every state has (10_state.md R27, R32), the closed form of the clock (50_video_unit.md R171), and the cycle
costs behind both (70_reset_and_hazards.md R290). -/

namespace Sys2Proof.Machine

/-! ### The invariant -/

theorem State.inv_reset : State.reset.Inv where
  memWf := rfl
  flagsLow := rfl
  accLt := by decide
  lineLt := by decide
  fbWf := rfl
  frameLt := fun _ h => nomatch h

theorem State.onTime_reset : State.reset.OnTime := ⟨rfl, rfl⟩

/-- Settles O38: every field is a literal. -/
theorem resetMeetsInvariants : Obligations.ResetMeetsInvariants := ⟨State.inv_reset, State.onTime_reset⟩

/-- A frame that goes on is short of its budget (52_machine_loop.md R216). -/
theorem nextFrameCyc_lt {fc : Option Nat} {c : Cycles} {n : Nat} (h : nextFrameCyc fc c = some n) : n < 70224 := by
  unfold nextFrameCyc at h
  split at h
  · next hlt => exact Option.some.inj h ▸ hlt
  · cases h

/-- `Cpu.step` keeps the low nibble of F zero (10_state.md R27). -/
theorem State.cpuStep_flagsLow {s t : State} (hf : s.cpu.f &&& 0x0F = 0) (h : s.cpuStep = .next t) : t.cpu.f &&& 0x0F = 0 := by
  rcases State.cpuStep_f h with he | ⟨-, -, he⟩
  · rwa [he]
  · rw [he]
    rfl

/-- Every machine step keeps the invariant, part by part: `Cpu.step` storage and F, `Vid.step` the counters and the framebuffer. -/
theorem State.Inv.step {s v : State} (hs : s.Inv) (h : Machine.step s = .next v) : v.Inv := by
  obtain ⟨t, ht, rfl⟩ := step_eq_afterCpu h
  have hv : t.joyUpdate.video = s.video := t.joyUpdate_video.trans (State.cpuStep_frame ht).1
  exact {
    memWf := s.wf_afterCpu (State.wf_cpuStep hs.memWf ht)
    flagsLow := by
      rw [State.afterCpu_cpu]
      exact State.cpuStep_flagsLow hs.flagsLow ht
    accLt := t.joyUpdate.vidStep_acc_lt s.cpuCost
    lineLt := State.vidStep_line_lt (hv ▸ hs.lineLt) s.cpuCost
    fbWf := State.fbWf_vidStep (hv ▸ hs.fbWf) s.cpuCost
    frameLt := fun _ hn => nextFrameCyc_lt hn }

/-- Settles O39, by `State.Inv.step`. -/
theorem stepKeepsInvariant : Obligations.StepKeepsInvariant := fun _ _ => State.Inv.step

/-! ### The clock (50_video_unit.md R171) -/

/-- Every machine step keeps the counters on time: `Vid.step` gets the cycles that `TCOUNT` is charged. -/
theorem State.OnTime.step {s v : State} (hs : s.OnTime) (h : Machine.step s = .next v) : v.OnTime := by
  obtain ⟨hacc, hline⟩ := hs
  obtain ⟨t, ht, rfl⟩ := step_eq_afterCpu h
  obtain ⟨hv, -, -, hc⟩ := State.cpuStep_frame ht
  have hv' : t.joyUpdate.video = s.video := t.joyUpdate_video.trans hv
  have hlt : t.joyUpdate.video.line < 154 := by
    rw [hv', hline]
    exact Nat.mod_lt _ (by decide)
  constructor
  · rw [State.afterCpu_video, State.vidStep_acc, State.afterCpu_cpu, hc, hv', hacc]
    exact Nat.mod_add_mod ..
  · rw [State.afterCpu_video, State.vidStep_line hlt, State.afterCpu_cpu, hc, hv', hacc, hline]
    simp only [Config.scanlineCycles, Config.linesPerFrame]
    omega

theorem State.onTime_loadProgram (s : State) (img : List Byte) : (s.loadProgram img).OnTime :=
  ⟨State.onTime_reset.acc, State.onTime_reset.line⟩

/-- Settles O40, by `State.OnTime.step`; after a load `ACC`, `LINE` and `TCOUNT` are zero. -/
theorem clockClosedForm : Obligations.ClockClosedForm := ⟨fun _ _ => State.OnTime.step, State.onTime_loadProgram⟩

/-! ### The calls of the host -/

theorem State.Inv.loadProgram {s : State} (hs : s.Inv) (img : List Byte) : (s.loadProgram img).Inv where
  memWf := State.wf_busLoadProgram hs.memWf img
  flagsLow := State.inv_reset.flagsLow
  accLt := State.inv_reset.accLt
  lineLt := State.inv_reset.lineLt
  fbWf := rfl
  frameLt := hs.frameLt

theorem State.Inv.setButton {s : State} (hs : s.Inv) (n : Button) (p : Bool) : (s.setButton n p).Inv :=
  { hs with memWf := State.wf_raiseIf hs.memWf _ }

/-- A call that completes was made between frames, and is one of the three (52_machine_loop.md R225). -/
theorem hostCall_inv {call : HostCall} {s : State} {r : HostReply} (h : hostCall call s = .next r) : s.frameCyc = none ∧
    ((∃ img, call = .loadProgram img ∧ r = ⟨s.loadProgram img, none⟩) ∨
     (∃ n p, call = .setButton n p ∧ r = ⟨s.setButton n p, none⟩) ∨ (call = .stepFrame ∧ s.stepFrame = .next r)) := by
  unfold hostCall at h
  split at h
  · cases h
  · next hbusy =>
    refine ⟨Option.not_isSome_iff_eq_none.1 hbusy, ?_⟩
    cases call with
    | loadProgram img => exact .inl ⟨img, rfl, (Host.Outcome.next.inj h).symm⟩
    | setButton n p => exact .inr (.inl ⟨n, p, rfl, (Host.Outcome.next.inj h).symm⟩)
    | stepFrame => exact .inr (.inr ⟨rfl, h⟩)

/-- Settles O41: a load and a button event by their own lemmas, a frame by induction over its steps (`State.stepFrame_keeps`). -/
theorem hostCallKeepsInvariant : Obligations.HostCallKeepsInvariant := by
  intro call s r hs h
  obtain ⟨-, ⟨img, -, rfl⟩ | ⟨n, p, -, rfl⟩ | ⟨-, hframe⟩⟩ := hostCall_inv h
  · exact hs.loadProgram img
  · exact hs.setButton n p
  · exact State.stepFrame_keeps (fun _ _ => State.Inv.step) hs hframe

/-! ### Cycle costs (70_reset_and_hazards.md R290) -/

theorem State.cpuCost_of_halted {s : State} (h : s.cpu.halted = true) : s.cpuCost = 4 := if_pos h

theorem State.cpuCost_of_running {s : State} (h : s.cpu.halted = false) : s.cpuCost = cyc s.fetch.opcode :=
  if_neg (by simp [h])

/-- The cost table by its sets of opcode bytes. -/
theorem cyc_eq (op : Byte) : cyc op =
    if op ∈ [0x06#8, 0x0E#8, 0x16#8, 0x1E#8, 0x26#8, 0x2E#8, 0x3E#8] then 8
    else if op ∈ [0xEA#8, 0xFA#8, 0xC3#8, 0xC9#8] then 16
    else if op = 0xCD then 24 else 4 := by
  revert op
  decide

/-- Settles O37: the table byte by byte, and the bounds of its entries. -/
theorem cycleCosts : Obligations.CycleCosts :=
  ⟨cyc_eq, fun _ => State.cpuCost_of_halted, State.cpuCost_bounds, fun _ => State.crossings_le_one⟩

end Sys2Proof.Machine
end
section
/-! PROOFS. The statements of 20_memory.md about routing (R62), the mirror (R65) and the unusable range (R66), and the program load of
52_machine_loop.md R222. -/

namespace Sys2Proof.Machine

/-! ### Reads and writes depend on the address through its key -/

theorem State.busRead_eq_of_cellKey_eq (s : State) {a b : Word} (h : cellKey a = cellKey b) : s.busRead a = s.busRead b := by
  simp only [State.busRead, Memory.read, h]

theorem State.busWrite_eq_of_cellKey_eq (s : State) {a b : Word} (v : Byte) (h : cellKey a = cellKey b) :
    s.busWrite a v = s.busWrite b v := by
  simp only [State.busWrite, Memory.write, h]

theorem Memory.write_of_none (m : Memory) {a : Word} (h : cellKey a = none) (v : Byte) : m.write a v = m := by
  simp only [Memory.write, h]

/-- Settles O3: the storage key of an address is the base of its range's region plus the index (`cellKey_eq_some_iff`). -/
theorem busReadRoutesByRange : Obligations.BusReadRoutesByRange := by
  intro s a
  have hregion (r : Region) (i : Nat)
      (h : (a.toNat < 0xE000 ∨ 0xFE00 ≤ a.toNat ∧ a.toNat < 0xFEA0 ∨ 0xFF00 ≤ a.toNat) ∧ r.base + i = a.toNat ∨
        0xE000 ≤ a.toNat ∧ a.toNat < 0xFE00 ∧ r.base + i = a.toNat - 0x2000) : s.busRead a = s.regionByte r i :=
    s.busRead_eq_regionByte ((cellKey_eq_some_iff a _).2 h)
  refine ⟨fun h => hregion .rom _ ?_, fun h₁ h₂ => hregion .vram _ ?_, fun h₁ h₂ => hregion .eram _ ?_, fun h₁ h₂ => hregion .wram _ ?_,
    fun h₁ h₂ => hregion .wram _ ?_, fun h₁ h₂ => hregion .oam _ ?_,
    fun h₁ h₂ => State.busRead_of_none ((cellKey_eq_none_iff a).2 ⟨h₁, Nat.lt_succ_of_le h₂⟩),
    fun h₁ h₂ => hregion .io _ ?_, fun h₁ h₂ => hregion .hram _ ?_, fun h => hregion .ie _ ?_⟩ <;>
  · simp only [Region.base]
    omega

/-! ### The mirror (20_memory.md R65) -/

/-- A mirror address has the key of the work-RAM address 0x2000 below it. -/
theorem cellKey_mirror {a : Word} (h₁ : 0xE000 ≤ a.toNat) (h₂ : a.toNat ≤ 0xFDFF) : cellKey a = cellKey (a - 0x2000) := by
  have hsub : (a - 0x2000).toNat = a.toNat - 0x2000 := by bv_omega
  have hk : cellKey a = some (a.toNat - 0x2000) := (cellKey_eq_some_iff a _).2 (.inr ⟨h₁, by omega, rfl⟩)
  rw [hk, eq_comm, cellKey_eq_some_iff, hsub]
  omega

/-- The top 512 bytes of work RAM are reached by their own address alone. -/
theorem eq_of_route_eq_unmirrored {a b : Word} (h₁ : 0xDE00 ≤ a.toNat) (h₂ : a.toNat ≤ 0xDFFF) (h : route b = route a) : b = a := by
  have hk : cellKey a = some a.toNat := (cellKey_eq_some_iff a _).2 (.inl ⟨.inl (by omega), rfl⟩)
  have hb := (cellKey_eq_some_iff b _).1 (((cellKey_eq_iff b a).2 h).trans hk)
  exact BitVec.eq_of_toNat_eq (by omega)

/-- Settles O5, by the key of a mirror address. -/
theorem mirrorAliasesWorkRam : Obligations.MirrorAliasesWorkRam := by
  refine ⟨fun s a v h₁ h₂ => ?_, fun _ _ => eq_of_route_eq_unmirrored⟩
  have hk := cellKey_mirror h₁ h₂
  exact ⟨s.busRead_eq_of_cellKey_eq hk, s.busWrite_eq_of_cellKey_eq v hk⟩

/-! ### The unusable range (20_memory.md R66) -/

theorem cellKey_unusable {a : Word} (h₁ : 0xFEA0 ≤ a.toNat) (h₂ : a.toNat ≤ 0xFEFF) : cellKey a = none :=
  (cellKey_eq_none_iff a).2 ⟨h₁, Nat.lt_succ_of_le h₂⟩

theorem State.busRead_unusable (s : State) {a : Word} (h₁ : 0xFEA0 ≤ a.toNat) (h₂ : a.toNat ≤ 0xFEFF) : s.busRead a = 0xFF :=
  State.busRead_of_none (cellKey_unusable h₁ h₂)

/-- Settles O6: an address there has no storage key, so reads answer 0xFF and the stores of a CALL are discarded. -/
theorem unusableRange : Obligations.UnusableRange := by
  refine ⟨fun s a v h₁ h₂ => ⟨s.busRead_unusable h₁ h₂, State.busWrite_of_none (cellKey_unusable h₁ h₂) v⟩, fun s h₁ h₂ => ?_,
    fun s a h₁ h₂ => ⟨_, exec_call a s, ?_, rfl, ?_⟩, fun s h₁ h₂ => ⟨_, exec_ret s, ?_, rfl, rfl⟩⟩
  · have hop : s.fetch.opcode = 0xFF := s.fetch_opcode.trans (s.busRead_unusable h₁ h₂)
    exact ⟨hop, by rw [Instr.isFallback, hop]; rfl⟩
  · have hhi : cellKey (s.cpu.sp - 1) = none := cellKey_unusable (by bv_omega) (by bv_omega)
    have hlo : cellKey (s.cpu.sp - 2) = none := cellKey_unusable (by bv_omega) (by bv_omega)
    rw [State.setPc_mem, State.pushWord_mem, State.advance_cpu_sp, Memory.write_of_none _ hlo, Memory.write_of_none _ hhi,
      State.advance_mem]
  · simp
  · have hlo : s.busRead s.cpu.sp = 0xFF := s.busRead_unusable h₁ (by omega)
    have hhi : s.busRead (s.cpu.sp + 1) = 0xFF := s.busRead_unusable (by bv_omega) (by bv_omega)
    rw [State.setPc_cpu_pc, State.readWord, hlo, hhi]
    rfl

/-! ### `Seq.load_program` (52_machine_loop.md R222) -/

theorem State.busRead_loadProgram (s : State) (img : List Byte) (a : Word) :
    (s.loadProgram img).busRead a = if a.toNat < 0x8000 then img.getD a.toNat 0x00 else s.busRead a :=
  s.busRead_busLoadProgram img a

/-- Settles O2: three sub-blocks are at their reset values; storage is what the bus's own load leaves. -/
theorem loadProgramResetsMachine : Obligations.LoadProgramResetsMachine :=
  fun s img => ⟨rfl, rfl, rfl, rfl, rfl, FrameBuffer.byteAt_nil, Buttons.get_reset, s.busRead_loadProgram img⟩

end Sys2Proof.Machine
end

section
/-! PROOFS. The statements about single instructions (40_nop.md to 44_halt_and_fallback.md): each next state in full, from `exec`'s own
equation. -/

namespace Sys2Proof.Machine

/-! ### Instructions that store nothing -/

/-- Settles O16, by `exec`'s equation. -/
theorem nopOnlyAdvancesPc : Obligations.NopOnlyAdvancesPc := exec_nop

/-- Every opcode byte but the defined ones costs what NOP costs (70_reset_and_hazards.md R290). -/
theorem cyc_of_not_mem {op : Byte} (h : op ∉ definedOpcodes) : cyc op = 4 := by
  revert op
  decide

/-- Settles O17: a fallback instruction runs the shared no-operation, and its opcode is none of the defined ones. -/
theorem fallbackActsAsNop : Obligations.FallbackActsAsNop := by
  intro i h
  have hop : i.opcode ∉ definedOpcodes := by simpa [Instr.isFallback] using h
  exact ⟨cyc_of_not_mem hop, exec_of_isFallback h⟩

/-- Settles O18, by `exec`'s equations. -/
theorem immediateLoads : Obligations.ImmediateLoads :=
  fun s v => ⟨exec_ldB v s, exec_ldC v s, exec_ldD v s, exec_ldE v s, exec_ldH v s, exec_ldL v s, exec_ldA v s⟩

/-- Settles O20, by `exec`'s equation. -/
theorem loadAccumulator : Obligations.LoadAccumulator := fun s a => exec_loadA a s

/-- Settles O21, by `exec`'s equation. -/
theorem jumpLoadsPc : Obligations.JumpLoadsPc := fun s a => exec_jp a s

/-- Settles O23, by `exec`'s equation. -/
theorem returnPopsPc : Obligations.ReturnPopsPc := exec_ret

/-- Settles O24, by `exec`'s equation. -/
theorem xorClearsAccumulator : Obligations.XorClearsAccumulator := exec_xorA

/-- Settles O25, by `exec`'s equation. -/
theorem haltSetsLatch : Obligations.HaltSetsLatch := exec_halt

/-! ### The two that store -/

theorem cellKey_eq_none_iff_route (a : Word) : cellKey a = none ↔ route a = none := by simp [cellKey]

/-- A byte known where the address has storage is known everywhere: the unusable range reads 0xFF (20_memory.md R66). -/
theorem State.busRead_eq_ite_route {s : State} {b : Word} {v : Byte} (h : cellKey b ≠ none → s.busRead b = v) :
    s.busRead b = if route b = none then 0xFF else v := by
  split
  · next hnone => exact State.busRead_of_none ((cellKey_eq_none_iff_route b).2 hnone)
  · next hsome => exact h (mt (cellKey_eq_none_iff_route b).1 hsome)

/-- Settles O19: the store's own byte, and the bytes it leaves. -/
theorem storeAccumulator : Obligations.StoreAccumulator := by
  refine fun s a hm => ⟨_, exec_storeA a s, rfl, rfl, rfl, rfl, fun b h => ?_, fun b => (s.advance 3).busRead_busWrite_of_route_ne s.cpu.a⟩
  rw [← h]
  have hkey := (cellKey_eq_iff b a).2 h
  exact State.busRead_eq_ite_route fun hb => State.busRead_busWrite_self (s := s.advance 3) hm s.cpu.a hkey (hkey ▸ hb)

/-- Settles O22: the two bytes of the push, each where its address has storage, and the bytes it leaves. -/
theorem callPushesReturnAddress : Obligations.CallPushesReturnAddress := by
  refine fun s a hm => ⟨_, exec_call a s, ?_, (s.advance 3).pushWord_video (s.cpu.pc + 3),
    (s.advance 3).pushWord_buttons (s.cpu.pc + 3), (s.advance 3).pushWord_frameCyc (s.cpu.pc + 3),
    fun b h => ?_, fun b h => ?_, fun b h₁ h₂ => ?_⟩
  · rw [State.setPc, State.pushWord_cpu]
    rfl
  · exact State.busRead_eq_ite_route (State.busRead_pushWord_hi (s := s.advance 3) hm _ ((cellKey_eq_iff _ _).2 h))
  · exact State.busRead_eq_ite_route (State.busRead_pushWord_lo (s := s.advance 3) hm _ ((cellKey_eq_iff _ _).2 h))
  · exact (s.advance 3).busRead_pushWord_of_ne _ (mt (cellKey_eq_iff _ _).1 h₁) (mt (cellKey_eq_iff _ _).1 h₂)

/-! ### Rules over the whole instruction set -/

/-- Settles O31, by `exec_effect`. -/
theorem everyInstructionCompletes : Obligations.EveryInstructionCompletes := fun i s =>
  (exec_effect i s).imp fun _ h => h.1

/-- Seven of the nine forms of an effect leave SP alone (10_state.md R25). -/
theorem Effect.cpu_sp {s t : State} {i : Instr} (h : Effect s i t) (hcall : ∀ a, i ≠ .call a) (hret : i ≠ .ret) :
    t.cpu.sp = s.cpu.sp := by
  cases h
  case call a => exact absurd rfl (hcall a)
  case ret => exact absurd rfl hret
  all_goals simp

/-- Settles O29: CALL and RET by their equations, the others by the forms of an effect. -/
theorem stackPointerWriters : Obligations.StackPointerWriters := by
  refine fun i s t h => ⟨fun a hi => ?_, fun hi => ?_, (effect_of_exec h).cpu_sp⟩
  · rw [hi, exec_call] at h
    cases h
    simp
  · rw [hi, exec_ret] at h
    cases h
    simp

/-- Seven of the nine forms of an effect leave storage alone (20_memory.md R72). -/
theorem Effect.mem {s t : State} {i : Instr} (h : Effect s i t) (hstore : ∀ a, i ≠ .storeA a) (hcall : ∀ a, i ≠ .call a) :
    t.mem = s.mem := by
  cases h
  case storeA a => exact absurd rfl (hstore a)
  case call a => exact absurd rfl (hcall a)
  all_goals simp

/-- Settles O30, by the forms of an effect. -/
theorem instructionReach : Obligations.InstructionReach := by
  intro i s t h
  have he := effect_of_exec h
  obtain ⟨hv, hb, hf, ht⟩ := he.frame
  exact ⟨hv, hb, hf, ht, he.mem⟩

end Sys2Proof.Machine
end

section
/-! PROOFS. The statements about the machine step: what it runs (30_encoding.md R101), what it changes (52_machine_loop.md R217, R226), the
flag byte (10_state.md R27), and two instructions in a row (20_memory.md R84; 42_control.md R143). -/

namespace Sys2Proof.Machine

/-- Settles O36, by `step_cases`. -/
theorem stepNeverStops : Obligations.StepNeverStops := fun s =>
  (step_cases s).elim fun t h => ⟨s.afterCpu t, h.2.1⟩

/-- The bytes that a step fetches decode to the fetched instruction. -/
theorem State.fetch_of_decode_fetchBytes {s : State} {i : Instr} {rest : List Byte} (h : decode s.fetchBytes = .ok (i, rest)) :
    s.fetch = i := by
  rw [State.fetchBytes, decode_cons] at h
  split at h
  · cases h
    rfl
  · cases h

/-- Settles O34: the decoded instruction is the fetched one, and its opcode's cost is charged. -/
theorem stepRunsDecodedInstruction : Obligations.StepRunsDecodedInstruction := by
  intro s t i rest hrun hdec hexec
  have hfetch := State.fetch_of_decode_fetchBytes hdec
  rw [step_of_exec hrun (hfetch.symm ▸ hexec), State.afterCpu, State.cpuCost_of_running hrun, hfetch]

/-- Settles O35: a halted `Cpu.step` only charges, and the other sub-blocks write the three shared bytes alone. -/
theorem haltedStep : Obligations.HaltedStep := by
  intro s hh
  refine ⟨_, step_of_cpuStep (State.cpuStep_of_halted hh), ?_, State.afterCpu_buttons .., fun a ha => ?_⟩
  · rw [State.afterCpu_cpu, State.cpuCost_of_halted hh]
    rfl
  · rw [State.busRead_afterCpu _ _ ha, State.busRead_charge]

/-- Settles O57: the frames of the two sub-blocks, and of a step the bytes its instruction stores and the three shared ones. -/
theorem stepChangesOnlyStoredBytes : Obligations.StepChangesOnlyStoredBytes := by
  refine ⟨fun s c => ⟨s.vidStep_cpu c, s.vidStep_buttons c, s.vidStep_frameCyc c, fun a => s.busRead_vidStep_of_ne c⟩,
    fun s => ⟨s.joyUpdate_cpu, s.joyUpdate_buttons, s.joyUpdate_video, s.joyUpdate_frameCyc, fun a => s.busRead_joyUpdate_of_ne⟩,
    fun s v h => ⟨(step_frame h).1, fun b hb hstore hcall => ?_⟩⟩
  obtain ⟨t, ht, rfl⟩ := step_eq_afterCpu h
  rw [State.busRead_afterCpu _ _ hb, State.busRead_cpuStep_of_route_ne ht hstore hcall]

/-! ### The flag byte (10_state.md R27) -/

/-- A machine step keeps F, but for an XOR A, which leaves 0x80 in it. -/
theorem step_f {s v : State} (h : step s = .next v) :
    v.cpu.f = s.cpu.f ∨ (s.cpu.halted = false ∧ s.fetch = .xorA ∧ v.cpu.f = 0x80) := by
  obtain ⟨t, ht, rfl⟩ := step_eq_afterCpu h
  rw [State.afterCpu_cpu]
  exact State.cpuStep_f ht

theorem step_flagsLow {s v : State} (hf : s.cpu.f &&& 0x0F = 0) (h : step s = .next v) : v.cpu.f &&& 0x0F = 0 := by
  obtain ⟨t, ht, rfl⟩ := step_eq_afterCpu h
  rw [State.afterCpu_cpu]
  exact State.cpuStep_flagsLow hf ht

/-- Settles O27: a write masks, a load resets, and XOR A is the one writer among the instructions. -/
theorem flagLowNibbleStaysZero : Obligations.FlagLowNibbleStaysZero := by
  refine ⟨fun s v => ⟨s.getReg_setReg_f v, ?_⟩, rfl, fun _ _ => rfl, fun _ _ => step_f, fun _ _ => step_flagsLow⟩
  show v &&& 0xF0 &&& 0x0F = 0
  rw [BitVec.and_assoc]
  exact BitVec.and_zero

/-! ### Two instructions in a row -/

/-- A running machine's step leaves the CpuCore as its instruction did, but for the charge. -/
theorem step_cpu_of_exec {s t v : State} (hrun : s.cpu.halted = false) (hexec : exec s.fetch s = .next t) (h : step s = .next v) :
    v.cpu = (t.charge s.cpuCost).cpu := by
  rw [step_of_exec hrun hexec] at h
  cases h
  exact State.afterCpu_cpu ..

/-- A running machine's step leaves the bytes as its instruction did, but for the three shared ones. -/
theorem busRead_step_of_exec {s t v : State} (hrun : s.cpu.halted = false) (hexec : exec s.fetch s = .next t) (h : step s = .next v)
    {b : Word} (hb : isSharedByte b = false) : v.busRead b = t.busRead b := by
  rw [step_of_exec hrun hexec] at h
  cases h
  rw [State.busRead_afterCpu _ _ hb, State.busRead_charge]

/-- Settles O33: the store's byte is none that the other sub-blocks rewrite, so it is what the next fetch reads. -/
theorem storeIsFetchedNext : Obligations.StoreIsFetchedNext := by
  intro s u hm hrun hfetch hstep hroute hshared
  have hexec : exec s.fetch s = .next ((s.advance 3).busWrite (s.cpu.pc + 3) s.cpu.a) := by rw [hfetch, exec_storeA]
  have hpc : u.cpu.pc = s.cpu.pc + 3 := by
    rw [step_cpu_of_exec hrun hexec hstep]
    rfl
  refine ⟨hpc, ?_⟩
  rw [State.fetch_opcode, hpc, busRead_step_of_exec hrun hexec hstep hshared]
  exact State.busRead_busWrite_of_route_eq (s := s.advance 3) hm s.cpu.a hroute rfl

/-- Settles O32: the pushed bytes outlast both steps, and the RET reads them. -/
theorem callThenReturn : Obligations.CallThenReturn := by
  intro s u v a hm hrun hcall hstep hret hstep' hhi hlo hhiShared hloShared
  have hexec : exec s.fetch s = .next (((s.advance 3).pushWord (s.cpu.pc + 3)).setPc a) := by rw [hcall, exec_call]
  have hcpu := step_cpu_of_exec hrun hexec hstep
  have hsp : u.cpu.sp = s.cpu.sp - 2 := by simp [hcpu]
  have hrun' : u.cpu.halted = false := by simp [hcpu, hrun]
  have hhiByte : u.busRead (s.cpu.sp - 1) = hiByte (s.cpu.pc + 3) := by
    rw [busRead_step_of_exec hrun hexec hstep hhiShared]
    exact State.busRead_pushWord_hi (s := s.advance 3) hm _ rfl (mt (cellKey_eq_none_iff_route _).1 hhi)
  have hloByte : u.busRead (s.cpu.sp - 2) = loByte (s.cpu.pc + 3) := by
    rw [busRead_step_of_exec hrun hexec hstep hloShared]
    exact State.busRead_pushWord_lo (s := s.advance 3) hm _ rfl (mt (cellKey_eq_none_iff_route _).1 hlo)
  have hexec' : exec u.fetch u = .next ((u.setSp (u.cpu.sp + 2)).setPc (u.readWord u.cpu.sp)) := by rw [hret, exec_ret]
  have hcpu' := step_cpu_of_exec hrun' hexec' hstep'
  have hnext : s.cpu.sp - 2 + 1 = s.cpu.sp - 1 := by bv_omega
  refine ⟨?_, ?_, ?_, ?_⟩
  · rw [hcpu', State.charge_cpu_pc, State.setPc_cpu_pc, State.readWord, hsp, hnext, hhiByte, hloByte, word16_hiByte_loByte]
  · rw [hcpu', State.charge_cpu_sp, State.setPc_cpu_sp, State.setSp_cpu_sp, hsp]
    exact BitVec.sub_add_cancel ..
  · exact (busRead_step_of_exec hrun' hexec' hstep' hhiShared).trans hhiByte
  · exact (busRead_step_of_exec hrun' hexec' hstep' hloShared).trans hloByte

end Sys2Proof.Machine
end
section
/-! PROOFS. The statements of 50_video_unit.md about one crossing: LY (R174), vertical blank (R176), the blanking lines (R177), the LCD
switched off (R180), and IF, which no sub-block clears. -/

namespace Sys2Proof.Machine

/-! ### The three kinds of crossing -/

theorem State.crossLine_visible {s : State} (h : (s.video.line + 1) % 154 < 144) : s.crossLine = (s.nextLine.renderScanline, false) := by
  rcases s.crossLine_cases with ⟨-, hc⟩ | ⟨hl, -⟩ | ⟨hl, -⟩
  · exact hc
  · exact absurd hl h.ne
  · exact absurd hl h.not_gt

theorem State.crossLine_vblank {s : State} (h : (s.video.line + 1) % 154 = 144) :
    s.crossLine = (s.nextLine.raiseIf ifVblankMask, true) := by
  rcases s.crossLine_cases with ⟨hl, -⟩ | ⟨-, hc⟩ | ⟨hl, -⟩
  · exact absurd h hl.ne
  · exact hc
  · exact absurd h hl.ne'

theorem State.crossLine_blanking {s : State} (h : 144 < (s.video.line + 1) % 154) : s.crossLine = (s.nextLine, false) := by
  rcases s.crossLine_cases with ⟨hl, -⟩ | ⟨hl, -⟩ | ⟨-, hc⟩
  · exact absurd hl h.not_gt
  · exact absurd hl h.ne'
  · exact hc

/-! ### LY and IF -/

/-- LY is written with the new line number (50_video_unit.md R174). -/
theorem State.busRead_nextLine_ly {s : State} (hm : s.mem.wf = true) :
    s.nextLine.busRead lyAddr = BitVec.ofNat 8 ((s.video.line + 1) % 154) := by
  have hv (v : Video) : (s.setVideo v).mem.wf = true := hm
  rw [State.nextLine, State.busRead_busWrite_io_self (hv _) (by decide)]

/-- Bits of IF are OR-ed in (10_state.md R42). -/
theorem State.busRead_raiseIf_if {s : State} (hm : s.mem.wf = true) (mask : Byte) :
    (s.raiseIf mask).busRead ifAddr = s.busRead ifAddr ||| mask :=
  State.busRead_busWrite_io_self hm (by decide) _

theorem State.busRead_raiseIf_of_ne (s : State) (mask : Byte) {a : Word} (h : a ≠ ifAddr) : (s.raiseIf mask).busRead a = s.busRead a :=
  s.busRead_busWrite_io (by decide) _ h

/-- After a crossing of any kind LY is the new line number. -/
theorem State.busRead_crossLine_ly {s : State} (hm : s.mem.wf = true) :
    s.crossLine.1.busRead lyAddr = BitVec.ofNat 8 ((s.video.line + 1) % 154) := by
  rw [← State.busRead_nextLine_ly hm]
  rcases s.crossLine_cases with ⟨-, h⟩ | ⟨-, h⟩ | ⟨-, h⟩ <;> rw [h]
  · exact State.busRead_congr (State.renderScanline_mem _) lyAddr
  · exact State.busRead_raiseIf_of_ne _ _ (by decide)

/-- After a crossing IF is as before, with the vertical-blank bit set where the new line is 144. -/
theorem State.busRead_crossLine_if {s : State} (hm : s.mem.wf = true) :
    s.crossLine.1.busRead ifAddr = if s.crossLine.2 then s.busRead ifAddr ||| ifVblankMask else s.busRead ifAddr := by
  have hnext : s.nextLine.busRead ifAddr = s.busRead ifAddr := s.busRead_nextLine_of_ne (by decide)
  rw [← hnext]
  rcases s.crossLine_cases with ⟨-, h⟩ | ⟨-, h⟩ | ⟨-, h⟩ <;> rw [h]
  · exact State.busRead_congr (State.renderScanline_mem _) ifAddr
  · exact State.busRead_raiseIf_if (State.wf_nextLine hm) _
  · rfl

/-- A bit of IF that is set stays set where other bits are OR-ed in. -/
theorem getLsbD_or_of_left {v : Byte} (mask : Byte) {k : Nat} (h : v.getLsbD k = true) : (v ||| mask).getLsbD k = true := by
  rw [BitVec.getLsbD_or, h, Bool.true_or]

theorem State.crossLine_keeps_if_bit {s : State} (hm : s.mem.wf = true) {k : Nat} (h : (s.busRead ifAddr).getLsbD k = true) :
    (s.crossLine.1.busRead ifAddr).getLsbD k = true := by
  rw [State.busRead_crossLine_if hm]
  split
  · exact getLsbD_or_of_left _ h
  · exact h

theorem State.vidStep_keeps_if_bit {s : State} (hm : s.mem.wf = true) (c : Cycles) {k : Nat} (h : (s.busRead ifAddr).getLsbD k = true) :
    ((s.vidStep c).1.busRead ifAddr).getLsbD k = true :=
  (State.vidStep_keeps (P := fun t => t.mem.wf = true ∧ (t.busRead ifAddr).getLsbD k = true) (fun _ _ ht => ht)
    (fun _ ⟨htm, htk⟩ => ⟨State.wf_crossLine htm, State.crossLine_keeps_if_bit htm htk⟩) c ⟨hm, h⟩).2

/-! ### The button event (51_input_latch.md R202) -/

theorem State.busRead_setButton (s : State) (n : Button) (p : Bool) (a : Word) :
    (s.setButton n p).busRead a = (s.raiseIf ifJoypadMask).busRead a := rfl

theorem State.busRead_setButton_if {s : State} (hm : s.mem.wf = true) (n : Button) (p : Bool) :
    (s.setButton n p).busRead ifAddr = s.busRead ifAddr ||| ifJoypadMask := by
  rw [State.busRead_setButton, State.busRead_raiseIf_if hm]

/-- Settles O53: the button by the lemmas of `Buttons.set`, storage by those of `raiseIf`. -/
theorem setButtonRaisesJoypadBit : Obligations.SetButtonRaisesJoypadBit :=
  fun s n p hm => ⟨s.buttons.get_set_self n p, fun _ => s.buttons.get_set_of_ne p, State.busRead_setButton_if hm n p,
    fun _ => s.busRead_raiseIf_of_ne ifJoypadMask, s.setButton_cpu n p, s.raiseIf_video ifJoypadMask, s.raiseIf_frameCyc ifJoypadMask⟩

/-! ### The statements -/

/-- An I/O byte is routed to from no other address. -/
theorem route_ne_of_ne_io {a b : Word} (ha : 0xFF00 ≤ a.toNat) (h : b ≠ a) : route a ≠ route b :=
  fun he => h (eq_of_cellKey_eq_io ha ((cellKey_eq_iff b a).2 he.symm))

/-- Settles O44: lines 145 to 153 are the third kind of crossing; a set bit of IF meets only OR-s and writes elsewhere. -/
theorem blankingLines : Obligations.BlankingLines := by
  refine ⟨fun s h₁ h₂ => ?_, fun s c k hm => State.vidStep_keeps_if_bit hm c, fun s => s.busRead_joyUpdate_of_ne (by decide),
    fun s n p k hm h => ?_, fun s img => ?_, fun i s t h hstore hcall => ?_⟩
  · have hline : (s.video.line + 1) % 154 = s.video.line + 1 := Nat.mod_eq_of_lt (by omega)
    refine ⟨State.crossLine_blanking (by omega), by rw [State.nextLine_video], ?_, s.nextLine_cpu, s.nextLine_buttons, s.nextLine_frameCyc,
      fun a => s.busRead_nextLine_of_ne, fun hm => ?_⟩
    · rw [State.nextLine_video]
      exact hline
    · rw [State.busRead_nextLine_ly hm, hline]
  · rw [State.busRead_setButton_if hm]
    exact getLsbD_or_of_left _ h
  · rw [State.busRead_loadProgram]
    exact if_neg (by decide)
  · refine (effect_of_exec h).busRead_of_route_ne (fun a hi => ?_) (fun a hi => ?_)
    · exact route_ne_of_ne_io (by decide) fun ha => hstore (ha ▸ hi)
    · obtain ⟨h₁, h₂⟩ := hcall a hi
      exact ⟨route_ne_of_ne_io (by decide) h₁, route_ne_of_ne_io (by decide) h₂⟩

/-- Settles O45: from line 143 the crossing is of the second kind. -/
theorem verticalBlank : Obligations.VerticalBlank := by
  intro s hm hline
  have hline' : (s.video.line + 1) % 154 = 144 := by rw [hline]
  have hc := State.crossLine_vblank hline'
  have hbit : s.crossLine.2 = true := by rw [hc]
  refine ⟨hbit, ?_, ?_, ?_, s.crossLine_cpu, s.crossLine_buttons, fun a h₁ h₂ => s.busRead_crossLine_of_ne h₂ h₁⟩
  · rw [State.busRead_crossLine_if hm, if_pos hbit]
    rfl
  · rw [State.busRead_crossLine_ly hm, hline']
    rfl
  · rw [hc, State.raiseIf_video, State.nextLine_video, hline]
    rfl

/-- Settles O46: LY by `busRead_crossLine_ly`; a store reaches storage alone. -/
theorem lyMirrorsLine : Obligations.LyMirrorsLine := by
  refine ⟨fun s hm => ⟨?_, s.crossLine_line⟩, fun s hm => ⟨_, exec_storeA 0xFF44 s, rfl, ?_⟩⟩
  · rw [State.busRead_crossLine_ly hm, State.crossLine_line]
  · exact State.busRead_busWrite_io_self (s := s.advance 3) hm (by decide) s.cpu.a

/-- The write of LY does not switch the LCD. -/
theorem State.lcdEnabled_nextLine (s : State) : s.nextLine.lcdEnabled = s.lcdEnabled := by
  rw [State.lcdEnabled, State.lcdEnabled, State.busRead_nextLine_of_ne s (by decide)]

theorem State.renderScanline_of_lcdOff {s : State} (h : s.lcdEnabled = false) : s.renderScanline = s :=
  if_neg (by simp [h])

/-- With the LCD off no kind of crossing touches the framebuffer (50_video_unit.md R180). -/
theorem State.crossLine_fb_of_lcdOff {s : State} (h : s.lcdEnabled = false) : s.crossLine.1.video.fb = s.video.fb := by
  have hnext : s.nextLine.video.fb = s.video.fb := by rw [State.nextLine_video]
  rw [← hnext]
  rcases s.crossLine_cases with ⟨-, hc⟩ | ⟨-, hc⟩ | ⟨-, hc⟩ <;> rw [hc]
  · rw [State.renderScanline_of_lcdOff (s.lcdEnabled_nextLine.trans h)]
  · rw [State.raiseIf_video]

/-- Settles O47: the counters and the bit do not look at LCDC. -/
theorem lcdOffLeavesScanline : Obligations.LcdOffLeavesScanline :=
  fun s => ⟨State.crossLine_fb_of_lcdOff, s.crossLine_line, s.crossLine_acc, s.crossLine_snd_iff⟩

end Sys2Proof.Machine
end

section
/-! PROOFS. The statements of 50_video_unit.md about pixels: the addresses of map cells and tile rows as numbers (R182 to R185), and the
row rendered when a visible line is entered (R175). -/

namespace Sys2Proof.Machine

/-! ### Addresses as numbers -/

/-- The address of the map cell at plane coordinates `bx`, `by'` (50_video_unit.md R183). -/
def mapCell (lcdc : Byte) (bx by' : Nat) : Nat := (bif lcdc.getLsbD 3 then 0x9C00 else 0x9800) + 32 * (by' / 8) + bx / 8

/-- The address of the first byte of a tile (50_video_unit.md R184). -/
def tileBase (lcdc idx : Byte) : Nat := bif lcdc.getLsbD 4 then 0x8000 + 16 * idx.toNat else (0x9000 + 16 * idx.toInt).toNat

theorem mapBase_add (lcdc : Byte) (bx by' : Nat) :
    mapBase lcdc + BitVec.ofNat 16 (32 * (by' / 8) + bx / 8) = BitVec.ofNat 16 (mapCell lcdc bx by') := by
  rw [mapBase, mapCell, Nat.add_assoc, BitVec.ofNat_add (bif _ then _ else _)]
  cases lcdc.getLsbD 3 <;> rfl

/-- The signed form, for each of the 256 indices. -/
theorem signed_tileAddr (idx : Byte) : (0x9000 + 16 * idx.signExtend 16 : Word) = BitVec.ofNat 16 (0x9000 + 16 * idx.toInt).toNat := by
  revert idx
  decide

theorem tileAddr_eq_ofNat (lcdc idx : Byte) : tileAddr lcdc idx = BitVec.ofNat 16 (tileBase lcdc idx) := by
  rw [tileAddr, tileBase]
  cases lcdc.getLsbD 4
  · exact signed_tileAddr idx
  · rw [cond_true, BitVec.ofNat_add, BitVec.ofNat_mul, BitVec.ofNat_toNat]
    rfl

/-- A tile lies in the tile area of video RAM. -/
theorem tileBase_bounds (lcdc idx : Byte) : 0x8000 ≤ tileBase lcdc idx ∧ tileBase lcdc idx + 15 ≤ 0x97FF := by
  have hlt := idx.isLt
  have hlo := idx.le_toInt
  have hhi := idx.toInt_lt
  cases h : lcdc.getLsbD 4 <;> simp only [tileBase, h, cond_true, cond_false] <;> omega

/-- The colour of a plane position, with its three addresses as numbers. -/
theorem State.backgroundColour_eq (s : State) (lcdc : Byte) (bx by' : Nat) : s.backgroundColour lcdc bx by' =
    BitVec.ofNat 2 (2 * bitNat (s.busRead (BitVec.ofNat 16
        (tileBase lcdc (s.busRead (BitVec.ofNat 16 (mapCell lcdc bx by'))) + 2 * (by' % 8) + 1))) (7 - bx % 8) +
      bitNat (s.busRead (BitVec.ofNat 16
        (tileBase lcdc (s.busRead (BitVec.ofNat 16 (mapCell lcdc bx by'))) + 2 * (by' % 8)))) (7 - bx % 8)) := by
  rw [State.backgroundColour, mapBase_add]
  simp only [tileAddr_eq_ofNat, BitVec.ofNat_add]
  rfl

theorem toNat_ofNat_bits (hi lo : Byte) (b : Nat) :
    (BitVec.ofNat 2 (2 * bitNat hi b + bitNat lo b)).toNat = 2 * bitNat hi b + bitNat lo b := by
  have hhi : bitNat hi b ≤ 1 := Bool.toNat_le _
  have hlo : bitNat lo b ≤ 1 := Bool.toNat_le _
  exact Nat.mod_eq_of_lt (by omega)

/-- Settles O49: the tile lies in video RAM, and the colour is the number of its two bits. -/
theorem pixelColourFormula : Obligations.PixelColourFormula := by
  intro s x y read lcdc bx by' idx tile
  have hbounds := tileBase_bounds lcdc idx
  refine ⟨hbounds.1, hbounds.2, ?_⟩
  show (s.backgroundColour lcdc bx by').toNat = _
  rw [State.backgroundColour_eq, toNat_ofNat_bits]
  rfl

/-! ### Visible lines (50_video_unit.md R175) -/

/-- A pixel of the plane depends on video RAM alone. -/
theorem State.backgroundColour_congr {s t : State} (h : ∀ a : Word, a.toNat < 0xA000 → t.busRead a = s.busRead a) (lcdc : Byte)
    {bx by' : Nat} (hx : bx < 256) (hy : by' < 256) : t.backgroundColour lcdc bx by' = s.backgroundColour lcdc bx by' := by
  have hread {n : Nat} (hn : n < 0xA000) : t.busRead (BitVec.ofNat 16 n) = s.busRead (BitVec.ofNat 16 n) :=
    h _ (by rw [BitVec.toNat_ofNat]; omega)
  have hcell : mapCell lcdc bx by' < 0xA000 := by
    cases hb : lcdc.getLsbD 3 <;> simp only [mapCell, hb, cond_true, cond_false] <;> omega
  have htile := (tileBase_bounds lcdc (s.busRead (BitVec.ofNat 16 (mapCell lcdc bx by')))).2
  rw [State.backgroundColour_eq, State.backgroundColour_eq, hread hcell, hread (by omega), hread (by omega)]

/-- The write of LY changes no pixel: LY is neither in video RAM nor one of LCDC, SCY, SCX. -/
theorem State.pixelColour_nextLine (s : State) (y x : Nat) : s.nextLine.pixelColour y x = s.pixelColour y x := by
  have hvram (a : Word) (ha : a.toNat < 0xA000) : s.nextLine.busRead a = s.busRead a :=
    s.busRead_nextLine_of_ne fun he => absurd ha (he ▸ by decide)
  rw [State.pixelColour, State.busRead_nextLine_of_ne s (by decide), State.busRead_nextLine_of_ne s (by decide),
    State.busRead_nextLine_of_ne s (by decide), State.backgroundColour_congr hvram _ (Nat.mod_lt _ (by decide)) (Nat.mod_lt _ (by decide)),
    State.pixelColour]

/-- Settles O59: a crossing of the first kind renders the new line in the state that LY was written in. -/
theorem visibleLineRendersOnEntry : Obligations.VisibleLineRendersOnEntry := by
  intro s hvisible
  have hc := State.crossLine_visible hvisible
  have hline : s.nextLine.video.line = (s.video.line + 1) % 154 := by rw [State.nextLine_video]
  have hfb : s.nextLine.video.fb = s.video.fb := by rw [State.nextLine_video]
  refine ⟨hc, s.crossLine_line, fun hon x k hx hk => ?_, fun i hi => ?_⟩
  · rw [hc, ← hline, State.byteAt_renderScanline (s.lcdEnabled_nextLine.trans hon) hx hk, State.pixelColour_nextLine]
  · rw [← hline] at hi
    rw [hc, ← hfb]
    cases hon : s.nextLine.lcdEnabled
    · rw [State.renderScanline_of_lcdOff hon]
    · exact State.byteAt_renderScanline_of_ne hon hi

end Sys2Proof.Machine
end
section
/-! PROOFS. The statements of 51_input_latch.md: the input register after an update (R203 to R207). -/

namespace Sys2Proof.Machine

/-! ### The register as a function of the select bits -/

theorem Buttons.dirNib_and (b : Buttons) : b.dirNib &&& 0x0F = b.dirNib := (activeLow_lines b.right b.left b.up b.down).2.2.2.2.1

/-- The nibbles of the two groups AND-ed, 0xF standing for a group that is not selected (51_input_latch.md R204 to R206). -/
theorem joypAfter_eq (b : Buttons) (reg : Byte) : joypAfter b reg = 0xC0 ||| (reg &&& 0x30) |||
    (0x0F &&& (if reg.getLsbD 4 then 0x0F else b.dirNib) &&& (if reg.getLsbD 5 then 0x0F else b.actNib)) := by
  unfold joypAfter
  cases reg.getLsbD 4 <;> cases reg.getLsbD 5
  case false.false => rfl
  case false.true => simp only [Bool.false_eq_true, if_true, if_false, BitVec.and_comm 0x0F, Buttons.dirNib_and]
  all_goals simp only [Bool.false_eq_true, if_true, if_false, BitVec.and_self]

/-- A low bit of the register is 0 exactly if a selected group's line is (51_input_latch.md R203 to R206). -/
theorem getLsbD_joypAfter_low (b : Buttons) (reg : Byte) {k : Nat} (hk : k < 4) : (joypAfter b reg).getLsbD k =
    ((reg.getLsbD 4 || b.dirNib.getLsbD k) && (reg.getLsbD 5 || b.actNib.getLsbD k)) := by
  rw [joypAfter_eq]
  cases reg.getLsbD 4 <;> cases reg.getLsbD 5 <;> interval_cases k <;> simp

/-- The upper bits: two ones, and the select bits kept (51_input_latch.md R204, R207). -/
theorem getLsbD_joypAfter_high (b : Buttons) (reg : Byte) : (joypAfter b reg).getLsbD 7 = true ∧ (joypAfter b reg).getLsbD 6 = true ∧
    (joypAfter b reg).getLsbD 5 = reg.getLsbD 5 ∧ (joypAfter b reg).getLsbD 4 = reg.getLsbD 4 := by
  rw [joypAfter_eq]
  refine ⟨?_, ?_, ?_, ?_⟩ <;> simp

/-- An update looks at the select bits alone. -/
theorem joypAfter_congr (b : Buttons) {reg reg' : Byte} (h₅ : reg.getLsbD 5 = reg'.getLsbD 5) (h₄ : reg.getLsbD 4 = reg'.getLsbD 4) :
    joypAfter b reg = joypAfter b reg' := by
  have hmask : reg &&& 0x30 = reg' &&& 0x30 := by
    apply BitVec.eq_of_getLsbD_eq
    intro k hk
    interval_cases k <;> simp_all
  rw [joypAfter_eq, joypAfter_eq, hmask, h₄, h₅]

theorem joypAfter_joypAfter (b : Buttons) (reg : Byte) : joypAfter b (joypAfter b reg) = joypAfter b reg := by
  obtain ⟨-, -, h₅, h₄⟩ := getLsbD_joypAfter_high b reg
  exact joypAfter_congr b h₅ h₄

/-! ### The lines -/

/-- The four direction lines, active low (51_input_latch.md R201). -/
theorem Buttons.getLsbD_dirNib (b : Buttons) : b.dirNib.getLsbD 0 = !b.right ∧ b.dirNib.getLsbD 1 = !b.left ∧
    b.dirNib.getLsbD 2 = !b.up ∧ b.dirNib.getLsbD 3 = !b.down := by
  obtain ⟨h₀, h₁, h₂, h₃, -⟩ := activeLow_lines b.right b.left b.up b.down
  exact ⟨h₀, h₁, h₂, h₃⟩

/-- The four action lines, active low (51_input_latch.md R201). -/
theorem Buttons.getLsbD_actNib (b : Buttons) : b.actNib.getLsbD 0 = !b.a ∧ b.actNib.getLsbD 1 = !b.b ∧
    b.actNib.getLsbD 2 = !b.select ∧ b.actNib.getLsbD 3 = !b.start := by
  obtain ⟨h₀, h₁, h₂, h₃, -⟩ := activeLow_lines b.a b.b b.select b.start
  exact ⟨h₀, h₁, h₂, h₃⟩

/-- Settles O52: the upper bits, and each low bit from the two groups' lines. -/
theorem joypLines : Obligations.JoypLines := by
  intro b reg out dir act
  obtain ⟨h₇, h₆, h₅, h₄⟩ := getLsbD_joypAfter_high b reg
  obtain ⟨hd₀, hd₁, hd₂, hd₃⟩ := b.getLsbD_dirNib
  obtain ⟨ha₀, ha₁, ha₂, ha₃⟩ := b.getLsbD_actNib
  have hline {k : Nat} {d a : Bool} (hk : k < 4) (hd : b.dirNib.getLsbD k = !d) (ha : b.actNib.getLsbD k = !a) :
      out.getLsbD k = !((dir && d) || (act && a)) := by
    rw [getLsbD_joypAfter_low b reg hk, hd, ha]
    simp [dir, act]
  exact ⟨h₇, h₆, h₅, h₄, hline (by decide) hd₀ ha₀, hline (by decide) hd₁ ha₁, hline (by decide) hd₂ ha₂, hline (by decide) hd₃ ha₃⟩

theorem State.busRead_joyUpdate_joyp {s : State} (hm : s.mem.wf = true) :
    s.joyUpdate.busRead joypAddr = joypAfter s.buttons (s.busRead joypAddr) :=
  State.busRead_busWrite_io_self hm (by decide) _

/-- Settles O51: the register by `joypAfter_eq`, the rest by the frame of `joyUpdate`. -/
theorem joyUpdateRewritesJoyp : Obligations.JoyUpdateRewritesJoyp := by
  refine fun s hm => ⟨(State.busRead_joyUpdate_joyp hm).trans (joypAfter_eq _ _), fun a => s.busRead_joyUpdate_of_ne, s.joyUpdate_cpu,
    s.joyUpdate_video, s.joyUpdate_buttons, s.joyUpdate_frameCyc, ?_⟩
  show s.joyUpdate.joyUpdate.busRead joypAddr = s.joyUpdate.busRead joypAddr
  rw [State.busRead_joyUpdate_joyp (State.wf_joyUpdate hm), State.busRead_joyUpdate_joyp hm, State.joyUpdate_buttons, joypAfter_joypAfter]

end Sys2Proof.Machine
end

section
/-! PROOFS. The statements of 52_machine_loop.md about frames and the host's calls (R216 to R225). -/

namespace Sys2Proof.Machine

/-! ### The frame counter -/

theorem nextFrameCyc_of_lt {fc : Option Nat} {c : Cycles} (h : fc.getD 0 + c.toNat < 70224) :
    nextFrameCyc fc c = some (fc.getD 0 + c.toNat) := if_pos h

theorem nextFrameCyc_of_le {fc : Option Nat} {c : Cycles} (h : 70224 ≤ fc.getD 0 + c.toNat) : nextFrameCyc fc c = none :=
  if_neg (Nat.not_lt.2 h)

/-- The loop returns where it may still make enough steps of 4 cycles: the frame's remaining cycles pass, and at most 23 more
(52_machine_loop.md R216). -/
theorem State.frameLoop_returns (n : Nat) {s : State} (hlt : s.frameCyc.getD 0 < 70224) (hn : 70224 ≤ s.frameCyc.getD 0 + 4 * n) :
    ∃ t, State.frameLoop n s = .next t ∧ t.frameCyc = none ∧
      s.cpu.tcount + 70224 ≤ t.cpu.tcount + s.frameCyc.getD 0 ∧ t.cpu.tcount + s.frameCyc.getD 0 ≤ s.cpu.tcount + 70247 := by
  induction n generalizing s with
  | zero => omega
  | succ n ih =>
    obtain ⟨v, hv⟩ := stepNeverStops s
    obtain ⟨-, htcount, hframe⟩ := step_frame hv
    obtain ⟨h4, h24⟩ := s.cpuCost_bounds
    rcases Nat.lt_or_ge (s.frameCyc.getD 0 + s.cpuCost.toNat) 70224 with hmore | hlast
    · rw [nextFrameCyc_of_lt hmore] at hframe
      have hcount : v.frameCyc.getD 0 = s.frameCyc.getD 0 + s.cpuCost.toNat := by rw [hframe, Option.getD_some]
      obtain ⟨t, ht, hnone, hlo, hhi⟩ := ih (by omega) (by omega : 70224 ≤ v.frameCyc.getD 0 + 4 * n)
      exact ⟨t, (State.frameLoop_more n hv hframe).trans ht, hnone, by omega, by omega⟩
    · rw [nextFrameCyc_of_le hlast] at hframe
      exact ⟨v, State.frameLoop_last n hv hframe, hframe, by omega, by omega⟩

/-- The call's answer, from the loop's (52_machine_loop.md R218). -/
theorem State.stepFrame_of_frameLoop {s t : State} (h : State.frameLoop maxFrameSteps s = .next t) :
    s.stepFrame = .next ⟨t, some (FrameBuffer.copy t.video.fb)⟩ := by
  rw [State.stepFrame, h]

theorem FrameBuffer.getD_copy (fb : FrameBuffer) {i : Nat} (h : i < 92160) : (FrameBuffer.copy fb).getD i 0 = FrameBuffer.byteAt fb i := by
  have hlen : i < (FrameBuffer.copy fb).length := by rwa [FrameBuffer.copy_length]
  rw [List.getD_eq_getElem _ _ hlen]
  simp only [FrameBuffer.copy, List.getElem_map, List.getElem_range]

/-- Settles O54: 17,556 steps of at least 4 cycles make up a frame. -/
theorem stepFrameReturns : Obligations.StepFrameReturns := by
  intro s hs
  have hzero : s.frameCyc.getD 0 = 0 := by rw [hs, Option.getD_none]
  obtain ⟨t, ht, hnone, hlo, hhi⟩ := State.frameLoop_returns maxFrameSteps (s := s) (by omega) (by rw [hzero, maxFrameSteps])
  exact ⟨_, _, State.stepFrame_of_frameLoop ht, hnone, by simpa [hzero] using hlo, by simpa [hzero] using hhi, rfl,
    FrameBuffer.copy_length _, fun i => FrameBuffer.getD_copy _⟩

/-! ### A halted frame (52_machine_loop.md R221) -/

/-- A halted machine's step: 4 cycles, and nothing else of the CpuCore and no button. -/
theorem step_of_halted {s : State} (hh : s.cpu.halted = true) : ∃ v, step s = .next v ∧
    v.cpu = { s.cpu with tcount := s.cpu.tcount + 4 } ∧ v.buttons = s.buttons ∧ v.frameCyc = nextFrameCyc s.frameCyc 4 := by
  obtain ⟨v, hv, hcpu, hb, -⟩ := haltedStep s hh
  exact ⟨v, hv, hcpu, hb, by rw [(step_frame hv).2.2, State.cpuCost_of_halted hh]⟩

/-- The loop of a halted machine makes exactly the steps of 4 cycles that the frame has left. -/
theorem State.frameLoop_halted (n : Nat) {s : State} (hh : s.cpu.halted = true) (hn : s.frameCyc.getD 0 + 4 * (n + 1) = 70224) :
    ∃ t, State.frameLoop (n + 1) s = .next t ∧ t.cpu = { s.cpu with tcount := s.cpu.tcount + 4 * (n + 1) } ∧ t.buttons = s.buttons := by
  induction n generalizing s with
  | zero =>
    obtain ⟨v, hv, hcpu, hb, hframe⟩ := step_of_halted hh
    rw [nextFrameCyc_of_le hn.ge] at hframe
    exact ⟨v, State.frameLoop_last 0 hv hframe, hcpu, hb⟩
  | succ n ih =>
    obtain ⟨v, hv, hcpu, hb, hframe⟩ := step_of_halted hh
    have hmore : s.frameCyc.getD 0 + (4 : Cycles).toNat < 70224 := by
      show s.frameCyc.getD 0 + 4 < 70224
      omega
    rw [nextFrameCyc_of_lt hmore] at hframe
    have hcount : v.frameCyc.getD 0 = s.frameCyc.getD 0 + 4 := by rw [hframe, Option.getD_some]; rfl
    obtain ⟨t, ht, htcpu, htb⟩ := ih (s := v) (by rw [hcpu]; exact hh) (by omega)
    refine ⟨t, (State.frameLoop_more (n + 1) hv hframe).trans ht, ?_, htb.trans hb⟩
    rw [htcpu, hcpu]
    simp only [Nat.mul_add, Nat.add_assoc, Nat.add_comm]

/-- Settles O55: 17,556 halted steps. -/
theorem haltedFrame : Obligations.HaltedFrame := by
  intro s hh hs
  obtain ⟨t, ht, hcpu, hb⟩ := State.frameLoop_halted 17555 hh (by rw [hs, Option.getD_none])
  exact ⟨_, State.stepFrame_of_frameLoop ht, hcpu, hb⟩

/-! ### The host's calls (52_machine_loop.md R224, R225) -/

/-- Settles O56: the check of `FRAME_CYC` comes first; a frame returns by `stepFrameReturns`. -/
theorem hostActsBetweenFrames : Obligations.HostActsBetweenFrames := by
  have hidle {s : State} (h : s.frameCyc = none) : ¬ s.frameCyc.isSome = true := by simp [h]
  refine ⟨fun call s n h => if_pos (by simp [h]), fun img s h => if_neg (hidle h), fun n p s h => if_neg (hidle h),
    fun s h => ⟨if_neg (hidle h), ?_⟩⟩
  obtain ⟨r, -, hr, -⟩ := stepFrameReturns s h
  exact ⟨r, hr⟩

end Sys2Proof.Machine
end
